-- ==== Sys2Proof/Word.lean ====
section
/-!
DEFINITION. The word types of the block and the four-entry table that Gold codes, references and
correlation traces are kept in.
-/

namespace Sys2Proof

/-- A 32-bit register or command word (R23, R101). -/
abbrev Word := BitVec 32

/-- The encoding of an IEEE 754 binary64 value (R11). -/
abbrev F64 := BitVec 64

/-- A 6-stage tap pattern or shift register: bit j is `taps[j]` or `register[j]` (R29, R32). -/
abbrev Stages := BitVec 6

/-- A host transaction record (R107). -/
abbrev Txn := BitVec 49

/-- Four like things, one per symbol in table order "00", "10", "01", "11" (R14). -/
structure Four (α : Type) where
  k0 : α
  k1 : α
  k2 : α
  k3 : α
deriving DecidableEq, Repr

/-- The same value for every symbol. -/
def Four.all {α : Type} (a : α) : Four α := ⟨a, a, a, a⟩

/-- The entry of symbol index `k`. -/
def Four.get {α : Type} (t : Four α) (k : Fin 4) : α :=
  match k with
  | 0 => t.k0
  | 1 => t.k1
  | 2 => t.k2
  | 3 => t.k3

/-- Build a table from a function of the symbol index. -/
def Four.ofFn {α : Type} (f : Fin 4 → α) : Four α := ⟨f 0, f 1, f 2, f 3⟩

end Sys2Proof
end

