-- ==== Sys2Proof/Syntax.lean ====
section
/-!
DEFINITION. The instructions: the ten command rows of the opcode table (format CMD32, R102) and the
two host transactions (format T49, R107). Every row of spec/opcode_table.json is one constructor.
-/

namespace Sys2Proof

/-- One constructor per row of the opcode table. All operands of a command stand in the
configuration registers (R101). A transaction carries its byte enables, its byte offset from BASE
and its data field (R107). -/
inductive Instr where
  /-- NOP (R274). -/
  | nop
  /-- GEN_MSEQ with SEL = 0 (R132). -/
  | genMseqA
  /-- GEN_MSEQ with SEL = 1 (R132). -/
  | genMseqB
  /-- BUILD_GOLD (R152). -/
  | buildGold
  /-- SPREAD (R170). -/
  | spread
  /-- SYNTH (R180). -/
  | synth
  /-- ADD_NOISE (R200). -/
  | addNoise
  /-- CORRELATE (R222). -/
  | correlate
  /-- DECODE (R247). -/
  | decode
  /-- RUN_PIPELINE (R275). -/
  | runPipeline
  /-- RD, the host load (R277). Its DATA field has no effect. -/
  | rd (be : BitVec 4) (offset : BitVec 12) (data : Word)
  /-- WR, the host store (R278). -/
  | wr (be : BitVec 4) (offset : BitVec 12) (data : Word)
deriving DecidableEq, Repr

end Sys2Proof
end

