-- ==== Sys2Proof/Decode.lean ====
section
/-!
DEFINITION. Decoding the two formats of R100, and after it the encoder. A command word decodes as
R106 says, total on all 2^32 words; a T49 record always decodes (R107).
-/

namespace Sys2Proof

/-- Why a bit pattern is no instruction. -/
inductive DecodeError where
  /-- OPC above 0x08 (R104). -/
  | badOpcode
  /-- RSVD not 0, or SEL = 1 on an opcode other than 0x01 (R105). -/
  | reservedBits
deriving DecidableEq, Repr

/-- What a decoder answers: an instruction, or a refusal by name. -/
inductive Decoded where
  | instr (i : Instr)
  | illegal (e : DecodeError)
deriving DecidableEq, Repr

/-- An instruction's bits, in one of the two formats of R100. -/
inductive Encoded where
  /-- CMD32, the word written to CMD (R101). -/
  | cmd32 (w : Word)
  /-- T49, the host transaction (R107). -/
  | t49 (w : Txn)
deriving DecidableEq, Repr

/-- OPC, bits [7:0] of a command word (R101). -/
def opcField (w : Word) : BitVec 8 := w.extractLsb' 0 8

/-- SEL, bit [8] of a command word (R101). -/
def selField (w : Word) : Bool := w.getLsbD 8

/-- RSVD, bits [31:9] of a command word (R101). -/
def rsvdField (w : Word) : BitVec 23 := w.extractLsb' 9 23

/-- `decode(w)` of R106. -/
def decodeCommand (w : Word) : Decoded :=
  if (opcField w).toNat > 8 then .illegal .badOpcode
  else if rsvdField w ≠ 0#23 then .illegal .reservedBits
  else if selField w ∧ opcField w ≠ 0x01#8 then .illegal .reservedBits
  else
    match (opcField w).toNat with
    | 0 => .instr .nop
    | 1 => if selField w then .instr .genMseqB else .instr .genMseqA
    | 2 => .instr .buildGold
    | 3 => .instr .spread
    | 4 => .instr .synth
    | 5 => .instr .addNoise
    | 6 => .instr .correlate
    | 7 => .instr .decode
    | 8 => .instr .runPipeline
    | _ => .illegal .badOpcode

/-- DATA, bits [31:0] of a transaction (R107). -/
def dataField (w : Txn) : Word := w.extractLsb' 0 32

/-- OFFSET, bits [43:32] of a transaction (R107). -/
def offsetField (w : Txn) : BitVec 12 := w.extractLsb' 32 12

/-- W, bit [44] of a transaction (R107). -/
def writeField (w : Txn) : Bool := w.getLsbD 44

/-- BE, bits [48:45] of a transaction (R107). -/
def enablesField (w : Txn) : BitVec 4 := w.extractLsb' 45 4

/-- The transaction a T49 record stands for; every record is one (R107). -/
def decodeTransaction (w : Txn) : Instr :=
  if writeField w then .wr (enablesField w) (offsetField w) (dataField w)
  else .rd (enablesField w) (offsetField w) (dataField w)

/-- Decode either format. -/
def decode (e : Encoded) : Decoded :=
  match e with
  | .cmd32 w => decodeCommand w
  | .t49 w => .instr (decodeTransaction w)

/-- The command word of R102 for an opcode and a SEL bit, RSVD being 0. -/
def commandWord (opc : BitVec 8) (sel : Bool) : Word := 0#23 ++ BitVec.ofBool sel ++ opc

/-- The T49 record with the fields of R107. -/
def transactionWord (be : BitVec 4) (write : Bool) (offset : BitVec 12) (data : Word) : Txn :=
  be ++ BitVec.ofBool write ++ offset ++ data

/-- The encoding of an instruction, from the tables of R102 and R107. -/
def encode (i : Instr) : Encoded :=
  match i with
  | .nop => .cmd32 (commandWord 0x00#8 false)
  | .genMseqA => .cmd32 (commandWord 0x01#8 false)
  | .genMseqB => .cmd32 (commandWord 0x01#8 true)
  | .buildGold => .cmd32 (commandWord 0x02#8 false)
  | .spread => .cmd32 (commandWord 0x03#8 false)
  | .synth => .cmd32 (commandWord 0x04#8 false)
  | .addNoise => .cmd32 (commandWord 0x05#8 false)
  | .correlate => .cmd32 (commandWord 0x06#8 false)
  | .decode => .cmd32 (commandWord 0x07#8 false)
  | .runPipeline => .cmd32 (commandWord 0x08#8 false)
  | .rd be offset data => .t49 (transactionWord be false offset data)
  | .wr be offset data => .t49 (transactionWord be true offset data)

/-- The record that `nbits` bits of value `w` are: up to 32 bits a command word, more a transaction
record; none where `w` has a bit the format does not have. -/
def tableRecord (nbits w : Nat) : Option Encoded :=
  if nbits ≤ 32 then
    if w < 2 ^ 32 then some (.cmd32 (BitVec.ofNat 32 w)) else none
  else if w < 2 ^ 49 then some (.t49 (BitVec.ofNat 49 w)) else none

/-- The instruction the decoder reads from the bits `w` of an opcode-table row of `nbits` bits. -/
def decodeTableWord (nbits w : Nat) : Option Instr :=
  match tableRecord nbits w with
  | none => none
  | some e =>
    match decode e with
    | .instr i => some i
    | .illegal _ => none

end Sys2Proof
end

