-- ==== Sys2Proof/Config.lean ====
section
/-!
DEFINITION. The constants the spec fixes and the OPEN parameters of the model (R7). An OPEN
parameter that is a function or a placement is an opaque constant here: nothing in Lean can
evaluate it. The two OPEN capacities are registers of the block and stand in State.
-/

namespace Sys2Proof

/-- Which arithmetic primitive of R11 produced a NaN. -/
inductive FloatOp where
  | add
  | sub
  | mul
  | div
  | sqrt
deriving DecidableEq, Repr

/-- OPEN (R7): the byte address of offset 0x000 on the host bus. -/
opaque Config.base : Nat

/-- OPEN (R7, R13): COS away from +0.0. -/
opaque Config.cos : F64 → F64

/-- OPEN (R7, R13): SIN away from +0.0. -/
opaque Config.sin : F64 → F64

/-- OPEN (R7, R13): EXP10 away from the exact points of R13. -/
opaque Config.exp10 : F64 → F64

/-- OPEN (R7, R201): the stream of UNIFORM draws before its range [-1, 1] is imposed, indexed by
the number of draws taken so far. -/
opaque Config.uniform : Nat → F64

/-- OPEN (93 I9): the sign bit and the 52 payload bits of the NaN that an operation gives. That they
depend on the operation and its operands alone is a DESIGN CHOICE (log entry 4). -/
opaque Config.nanBits : FloatOp → F64 → F64 → BitVec 53

/-- The number of chips of a code, 2^6 - 1 (R7, R8). -/
def Config.codeLen : Nat := 63

/-- The number of overlapping chip pairs of a reference (R7). -/
def Config.refPairs : Nat := 62

/-- The seed [0,1,0,0,0,0] of the shift register (R7, R130). -/
def Config.lfsrSeed : Stages := 0x02#6

/-- The read-only ID, "GOLD" (R22). -/
def Config.idWord : Word := 0x474F4C44#32

/-- The read-only VERSION of command set GC-CMD (R22). -/
def Config.versionWord : Word := 0x00000001#32

/-- The reference value of the OPEN parameter MAX_BITS (R7). -/
def Config.refMaxBits : Word := 4096#32

/-- The reference value of the OPEN parameter MAX_SAMPLES (R7). -/
def Config.refMaxSamples : Word := 1048576#32

end Sys2Proof
end

