-- ==== Sys2Proof/Machine/State.lean ====
section
/-!
DEFINITION. The state of one block (R20): the registers of R23, the buffers of R50, the shift
register, the command engine's pending word and the noise source's state; beside them the model's
own fields, which stand for the host and the platform. State is plain data.
-/

namespace Sys2Proof.Machine

open Sys2Proof

/-! ### Memory: the two host-owned RAMs (R51, R52) -/

/-- A RAM of cells of `w` bits: the cells that differ from their reset value 0, by rising address.
A cell that is not listed reads 0 (R51, R52, R55). -/
abbrev Ram (w : Nat) := List (Nat × BitVec w)

/-- The form of a RAM: addresses strictly rising from `low` on, and no listed cell equal to 0. -/
def ramWfFrom {w : Nat} (low : Nat) : Ram w → Bool
  | [] => true
  | (a, v) :: rest => decide (low ≤ a) && !(v == 0) && ramWfFrom (a + 1) rest

/-- The RAMs a host writes through the buffer port: BITS, one bit a cell (R51), and NRAW, one f64 a
cell (R52). -/
structure Memory where
  bits : Ram 1
  nraw : Ram 64
deriving DecidableEq, Repr

/-- Both RAMs are in their one canonical form. -/
def Memory.wf (m : Memory) : Bool := ramWfFrom 0 m.bits && ramWfFrom 0 m.nraw

/-! ### What each valid flag owns (R49) -/

/-- MSA_V with MSEQ_A, or MSB_V with MSEQ_B. -/
structure MseqBank where
  valid : Bool
  seq : List Bool
deriving DecidableEq, Repr

/-- GOLD_V with GOLD0..GOLD3. -/
structure GoldBank where
  valid : Bool
  codes : Four (List Bool)
deriving DecidableEq, Repr

/-- CHIP_V with CHIPS and N_CHIPS. -/
structure ChipBank where
  valid : Bool
  chips : List Bool
  nChips : Word
deriving DecidableEq, Repr

/-- SIG_V with SIG_I, SIG_Q, ENV, RX and N_SAMP. -/
structure SigBank where
  valid : Bool
  sigI : List F64
  sigQ : List F64
  env : List F64
  rx : List F64
  nSamp : Word
deriving DecidableEq, Repr

/-- RX_NOISY with NOISE and NORM. -/
structure NoiseBank where
  valid : Bool
  noise : List F64
  norm : F64
deriving DecidableEq, Repr

/-- CORR_V with REF0..REF3, CORR0..CORR3, REF_LEN and CORR_LEN. -/
structure CorrBank where
  valid : Bool
  refs : Four (List F64)
  traces : Four (List F64)
  refLen : Word
  corrLen : Word
deriving DecidableEq, Repr

/-- DEC_V with DEC and the decode result registers. -/
structure DecBank where
  valid : Bool
  dec : List Bool
  nDec : Word
  berErrs : Word
  berDen : Word
  ber : F64
  cbf : Word
  interval : Word
  startEnd : Word
deriving DecidableEq, Repr

/-- What MSEQ_A or MSEQ_B holds while its flag is 0: flag 0, buffer empty (R49). -/
def MseqBank.empty : MseqBank := ⟨false, []⟩

/-- What GOLD_V owns while it is 0 (R49). -/
def GoldBank.empty : GoldBank := ⟨false, Four.all []⟩

/-- What CHIP_V owns while it is 0 (R49). -/
def ChipBank.empty : ChipBank := ⟨false, [], 0#32⟩

/-- What SIG_V owns while it is 0 (R49). -/
def SigBank.empty : SigBank := ⟨false, [], [], [], [], 0#32⟩

/-- What RX_NOISY owns while it is 0 (R49). -/
def NoiseBank.empty : NoiseBank := ⟨false, [], 0#64⟩

/-- What CORR_V owns while it is 0 (R49). -/
def CorrBank.empty : CorrBank := ⟨false, Four.all [], Four.all [], 0#32, 0#32⟩

/-- What DEC_V owns while it is 0 (R49). -/
def DecBank.empty : DecBank := ⟨false, [], 0#32, 0#32, 0#32, 0#64, 0#32, 0#32, 0#32⟩

/-! ### Registers with named bits -/

/-- CTRL's stored bits: NOISE_SRC and APPLY_NOISE. SRST always reads 0 (R24). -/
structure Ctrl where
  noiseSrc : Bool
  applyNoise : Bool
deriving DecidableEq, Repr

/-- STATUS's stored low bits: DONE, ERR, WERR, AERR. BUSY is `pending ≠ none` and the valid flags
stand in their banks (R25). -/
structure StatusBits where
  done : Bool
  err : Bool
  werr : Bool
  aerr : Bool
deriving DecidableEq, Repr

/-- IRQ_EN's stored bits (R26). -/
structure IrqEn where
  doneIe : Bool
  errIe : Bool
deriving DecidableEq, Repr

/-! ### The host and the platform -/

/-- What happens next at the block, in the total order of R84. The list of events to come is an
input of the model; it says how many host transactions stand between a command's acceptance and
its completion (LATENCY, R272). -/
inductive Event where
  /-- The host performs the transaction with this T49 record (R107). -/
  | transaction (w : Txn)
  /-- The pending command's completion step is taken (R272). -/
  | completion
  /-- The platform asserts and releases the reset input (R340). The noise source's state after it is
  OPEN, so the event brings it (R53, R340). -/
  | hardReset (noiseState : Nat)
deriving DecidableEq, Repr

/-! ### Errors of commands (R301, R302) -/

/-- The errors that end a command: one constructor per row of R302, with what its STAGE and
ERR_INFO columns need. -/
inductive CmdError where
  /-- 1.1, BPS = 0 -/
  | bpsZero
  /-- 1.2, SPC below 2 -/
  | spcTooSmall (spc : Word)
  /-- 1.3, N_BITS = 0 -/
  | emptyBits
  /-- 1.4, N_BITS above MAX_BITS -/
  | nBitsRange (n : Word)
  /-- 1.5, shift `k` is 63 or more -/
  | shiftRange (k : Fin 4) (shift : BitVec 8)
  /-- 1.6, shifts `j` and `k` are equal -/
  | shiftDup (j k : Fin 4)
  /-- 1.7, codes `j` and `k` are equal -/
  | goldNotDistinct (j k : Fin 4)
  /-- 1.8, `n` samples requested of `stage` -/
  | samplesRange (stage : BitVec 8) (n : Nat)
  /-- 1.9, F0 not finite -/
  | f0NonFinite (f0 : F64)
  /-- 1.10, PHI0 not finite -/
  | phi0NonFinite (phi0 : F64)
  /-- 2.1, countBitsFilter below 1 -/
  | cbfLt1 (cbf : Int)
  /-- 2.2, startEnd not positive -/
  | startEndLe0 (startEnd : Int)
  /-- 2.3, the decoded length is wrong -/
  | lengthMismatch (len : Nat)
  /-- 3.1, the noise energy is zero -/
  | noiseEnergyZero
  /-- 3.2, norm is not finite -/
  | normNonFinite (norm : F64)
  /-- 3.3, noise sample `k` is not finite -/
  | noiseNonFinite (k : Nat)
  /-- 3.4, received sample `k` is not finite -/
  | rxNonFinite (k : Nat)
  /-- 4.1, SPREAD without a table; `flags` is STATUS[15:8] -/
  | noGold (flags : BitVec 8)
  /-- 4.2, SYNTH without chips -/
  | noChips (flags : BitVec 8)
  /-- 4.3, ADD_NOISE or CORRELATE (`stage`) without a signal -/
  | noSignal (stage : BitVec 8) (flags : BitVec 8)
  /-- 4.4, DECODE without traces -/
  | noCorr (flags : BitVec 8)
  /-- 5.1, OPC above 0x08 -/
  | badOpcode (w : Word)
  /-- 5.2, reserved bits of the word set -/
  | reservedBits (w : Word)
deriving DecidableEq, Repr

/-! ### Why a step could stop -/

/-- The reasons a step stops with a fault: none. Every command word and every T49 record has an
effect, and no state is stuck (R106, R107, R272; 93 §1). Safe: there is nothing here to raise. -/
inductive Fault where
deriving DecidableEq, Repr

/-- The reasons a step is refused. -/
inductive Refusal where
  /-- Raised by an arm of `exec` whose instruction has no meaning in the model. No arm raises it:
  all twelve rows have their meaning. Safe. -/
  | notModelled (mnemonic : String)
deriving DecidableEq, Repr

/-! ### The state -/

/-- The whole state. The fields to `noiseState` are the spec's (R20); `events` and `readData` are the
model's own and stand for the host side of the port. -/
structure State where
  /-- CTRL (R24) -/
  ctrl : Ctrl
  /-- CMD, the last accepted command word (R40) -/
  cmd : Word
  /-- STATUS[4:1] (R25) -/
  status : StatusBits
  /-- IRQ_EN (R26) -/
  irqEn : IrqEn
  /-- ERR_CODE[23:0] (R27) -/
  errCode : BitVec 24
  /-- ERR_INFO (R28) -/
  errInfo : Word
  /-- TAPS_A (R29) -/
  tapsA : Stages
  /-- TAPS_B (R30) -/
  tapsB : Stages
  /-- SHIFTS (R31) -/
  shifts : Word
  /-- LFSR_STATE (R32) -/
  lfsr : Stages
  /-- N_BITS (R33) -/
  nBits : Word
  /-- BPS (R34) -/
  bps : Word
  /-- SPC (R35) -/
  spc : Word
  /-- F0_HI:F0_LO (R36) -/
  f0 : F64
  /-- PHI0_HI:PHI0_LO (R37) -/
  phi0 : F64
  /-- SNR_DB_HI:SNR_DB_LO (R38) -/
  snrDb : F64
  /-- A0_HI:A0_LO (R39) -/
  a0 : F64
  /-- BUF_SEL (R46) -/
  bufSel : BitVec 5
  /-- BUF_INDEX (R46) -/
  bufIndex : Word
  /-- MAX_BITS, an OPEN parameter (R7, R45) -/
  maxBits : Word
  /-- MAX_SAMPLES, an OPEN parameter (R7, R45) -/
  maxSamples : Word
  /-- MSA_V and MSEQ_A (R49) -/
  msa : MseqBank
  /-- MSB_V and MSEQ_B (R49) -/
  msb : MseqBank
  /-- GOLD_V and what it owns (R49) -/
  gold : GoldBank
  /-- CHIP_V and what it owns (R41, R49) -/
  chip : ChipBank
  /-- SIG_V and what it owns (R41, R49) -/
  sig : SigBank
  /-- RX_NOISY and what it owns (R43, R49) -/
  noisy : NoiseBank
  /-- CORR_V and what it owns (R41, R49) -/
  corr : CorrBank
  /-- DEC_V and what it owns (R42, R44, R49) -/
  dec : DecBank
  /-- BITS and NRAW (R51, R52) -/
  mem : Memory
  /-- the accepted command word that has not completed (R53) -/
  pending : Option Word
  /-- noise_state: how many draws the UNIFORM stream stands at (R53, R201) -/
  noiseState : Nat
  /-- the model's own: the events to come, in order (R84) -/
  events : List Event
  /-- the model's own: the value the last RD returned to the host (R277) -/
  readData : Word
deriving DecidableEq, Repr

/-- The state after reset (R55). DESIGN CHOICE, unsafe where a claim leans on them: the two capacities
take their reference values (R7; log entry 3), the noise stream stands at place 0 (log entry 6), no
event is listed (log entry 1), and the host has read 0 (log entry 7). -/
def State.reset : State where
  ctrl := ⟨false, false⟩
  cmd := 0#32
  status := ⟨false, false, false, false⟩
  irqEn := ⟨false, false⟩
  errCode := 0#24
  errInfo := 0#32
  tapsA := 0x21#6
  tapsB := 0x33#6
  shifts := 0x1E140A00#32
  lfsr := Config.lfsrSeed
  nBits := 0#32
  bps := 0#32
  spc := 0#32
  f0 := 0#64
  phi0 := 0#64
  snrDb := 0#64
  a0 := 0#64
  bufSel := 0#5
  bufIndex := 0#32
  maxBits := Config.refMaxBits
  maxSamples := Config.refMaxSamples
  msa := MseqBank.empty
  msb := MseqBank.empty
  gold := GoldBank.empty
  chip := ChipBank.empty
  sig := SigBank.empty
  noisy := NoiseBank.empty
  corr := CorrBank.empty
  dec := DecBank.empty
  mem := ⟨[], []⟩
  pending := none
  noiseState := 0
  events := []
  readData := 0#32

end Sys2Proof.Machine
end

