-- ==== Sys2Proof/Machine/Ops.lean ====
section
/-!
DEFINITION. The named operations over the state: reading and writing the two RAMs, the sticky bus
flags, recording an error (the block's one exception entry, R303) and clearing it (the return,
R306), completing a command (R272), and the two resets (R340, R341).
-/

namespace Sys2Proof.Machine

open Sys2Proof

/-! ### The RAMs (R51, R52) -/

/-- Read one cell; a cell that is not listed holds its reset value 0. -/
def ramRead {w : Nat} (m : Ram w) (a : Nat) : BitVec w :=
  match m with
  | [] => 0#w
  | (b, v) :: rest => if a = b then v else ramRead rest a

/-- Write one cell, keeping the canonical form. -/
def ramWrite {w : Nat} (m : Ram w) (a : Nat) (v : BitVec w) : Ram w :=
  match m with
  | [] => if v = 0#w then [] else [(a, v)]
  | (b, u) :: rest =>
    if a < b then (if v = 0#w then (b, u) :: rest else (a, v) :: (b, u) :: rest)
    else if a = b then (if v = 0#w then rest else (a, v) :: rest)
    else (b, u) :: ramWrite rest a v

/-- BITS[k], as a bit (R51). -/
def readBit (s : State) (k : Nat) : Bool := ramRead s.mem.bits k == 1#1

/-- NRAW[k] (R52). -/
def readNraw (s : State) (k : Nat) : F64 := ramRead s.mem.nraw k

/-- BITS[k] <- b (R77). -/
def writeBit (s : State) (k : Nat) (b : Bool) : State :=
  { s with mem := { s.mem with bits := ramWrite s.mem.bits k (BitVec.ofBool b) } }

/-- NRAW[k] <- v (R78). -/
def writeNraw (s : State) (k : Nat) (v : F64) : State :=
  { s with mem := { s.mem with nraw := ramWrite s.mem.nraw k v } }

/-! ### The sticky bus flags (R308) -/

/-- A host write was dropped: WERR is set (R25). -/
def setWerr (s : State) : State := { s with status := { s.status with werr := true } }

/-- A bad access was made: AERR is set (R25). -/
def setAerr (s : State) : State := { s with status := { s.status with aerr := true } }

/-! ### The error table (R302) -/

/-- CLASS of an error (R301, R302). -/
def errorClass (e : CmdError) : BitVec 8 :=
  match e with
  | .bpsZero | .spcTooSmall _ | .emptyBits | .nBitsRange _ | .shiftRange _ _ | .shiftDup _ _
  | .goldNotDistinct _ _ | .samplesRange _ _ | .f0NonFinite _ | .phi0NonFinite _ => 1#8
  | .cbfLt1 _ | .startEndLe0 _ | .lengthMismatch _ => 2#8
  | .noiseEnergyZero | .normNonFinite _ | .noiseNonFinite _ | .rxNonFinite _ => 3#8
  | .noGold _ | .noChips _ | .noSignal _ _ | .noCorr _ => 4#8
  | .badOpcode _ | .reservedBits _ => 5#8

/-- STAGE of an error: the opcode of the stage that detected it (R302). -/
def errorStage (e : CmdError) : BitVec 8 :=
  match e with
  | .shiftRange _ _ | .shiftDup _ _ | .goldNotDistinct _ _ => 0x02#8
  | .emptyBits | .nBitsRange _ | .noGold _ => 0x03#8
  | .bpsZero | .spcTooSmall _ | .f0NonFinite _ | .phi0NonFinite _ | .noChips _ => 0x04#8
  | .samplesRange stage _ => stage
  | .noiseEnergyZero | .normNonFinite _ | .noiseNonFinite _ | .rxNonFinite _ => 0x05#8
  | .noSignal stage _ => stage
  | .cbfLt1 _ | .startEndLe0 _ | .lengthMismatch _ | .noCorr _ => 0x07#8
  | .badOpcode w | .reservedBits w => w.extractLsb' 0 8

/-- DETAIL of an error (R302). -/
def errorDetail (e : CmdError) : BitVec 8 :=
  match e with
  | .bpsZero => 1#8
  | .spcTooSmall _ => 2#8
  | .emptyBits => 3#8
  | .nBitsRange _ => 4#8
  | .shiftRange _ _ => 5#8
  | .shiftDup _ _ => 6#8
  | .goldNotDistinct _ _ => 7#8
  | .samplesRange _ _ => 8#8
  | .f0NonFinite _ => 9#8
  | .phi0NonFinite _ => 10#8
  | .cbfLt1 _ => 1#8
  | .startEndLe0 _ => 2#8
  | .lengthMismatch _ => 3#8
  | .noiseEnergyZero => 1#8
  | .normNonFinite _ => 2#8
  | .noiseNonFinite _ => 3#8
  | .rxNonFinite _ => 4#8
  | .noGold _ => 1#8
  | .noChips _ => 2#8
  | .noSignal _ _ => 3#8
  | .noCorr _ => 4#8
  | .badOpcode _ => 1#8
  | .reservedBits _ => 2#8

/-- A sample count as ERR_INFO shows it, saturated to 0xFFFFFFFF (R302). -/
def saturate32 (n : Nat) : Word := BitVec.ofNat 32 (min n 0xFFFFFFFF)

/-- `(a << 8) | b`, the ERR_INFO of the shift and code checks (R302). -/
def infoPair (a b : Nat) : Word := BitVec.ofNat 32 (a <<< 8 ||| b)

/-- ERR_INFO of an error: the low 32 bits of the offending value in two's complement (R302, R303). -/
def errorInfo (e : CmdError) : Word :=
  match e with
  | .bpsZero => 0#32
  | .spcTooSmall spc => spc
  | .emptyBits => 0#32
  | .nBitsRange n => n
  | .shiftRange k shift => infoPair k.val shift.toNat
  | .shiftDup j k => infoPair j.val k.val
  | .goldNotDistinct j k => infoPair j.val k.val
  | .samplesRange _ n => saturate32 n
  | .f0NonFinite f0 => f0.extractLsb' 32 32
  | .phi0NonFinite phi0 => phi0.extractLsb' 32 32
  | .cbfLt1 cbf => BitVec.ofInt 32 cbf
  | .startEndLe0 startEnd => BitVec.ofInt 32 startEnd
  | .lengthMismatch len => BitVec.ofNat 32 len
  | .noiseEnergyZero => 0#32
  | .normNonFinite norm => norm.extractLsb' 32 32
  | .noiseNonFinite k => BitVec.ofNat 32 k
  | .rxNonFinite k => BitVec.ofNat 32 k
  | .noGold flags => flags.setWidth 32
  | .noChips flags => flags.setWidth 32
  | .noSignal _ flags => flags.setWidth 32
  | .noCorr flags => flags.setWidth 32
  | .badOpcode w => w
  | .reservedBits w => w

/-- The word ERR_CODE takes: DETAIL, STAGE and CLASS (R27, R302). -/
def errorWord (e : CmdError) : BitVec 24 := errorDetail e ++ errorStage e ++ errorClass e

/-! ### Taking an error and returning from it -/

/-- `record_error` (R303): ERR_CODE takes detail, stage and class, ERR_INFO the offending value, and
ERR is set. This is the block's one exception entry; nothing else is saved and control goes
nowhere. -/
def recordError (e : CmdError) (s : State) : State :=
  { s with
    errCode := errorWord e
    errInfo := errorInfo e
    status := { s.status with err := true } }

/-- Clearing an error, by writing STATUS with bit 2 set (R279, R306): ERR, ERR_CODE and ERR_INFO
together. This is the return from an error. -/
def clearError (s : State) : State :=
  { s with errCode := 0#24, errInfo := 0#32, status := { s.status with err := false } }

/-! ### Commands -/

/-- How a stage or a whole command ended: with its commits done, or with an error at the state the
error leaves. -/
inductive Result where
  | committed (s : State)
  | failed (s : State) (e : CmdError)
deriving DecidableEq, Repr

/-- Go on with the next step of a pipeline at the state the last one committed; the first error ends
it (R275). -/
def Result.andThen (r : Result) (f : State → Result) : Result :=
  match r with
  | .committed s => f s
  | .failed s e => .failed s e

/-- The end of a completion step: the engine is idle and DONE is set (R272, R273). -/
def finish (s : State) : State :=
  { s with pending := none, status := { s.status with done := true } }

/-- `complete()` of R272 once the command has been executed: an error is recorded, and in either
case the engine becomes idle with DONE set. -/
def complete (r : Result) : State :=
  match r with
  | .committed s => finish s
  | .failed s e => finish (recordError e s)

/-! ### Resets -/

/-- Every piece of state of R55 at its reset value, with the noise source's state given. The
capacities are constants of the block; the events to come and the host's last read are the host's. -/
def resetWith (noise : Nat) (s : State) : State :=
  { State.reset with
    noiseState := noise
    maxBits := s.maxBits
    maxSamples := s.maxSamples
    events := s.events
    readData := s.readData }

/-- The soft reset (R341): noise_state is left as it was. -/
def softReset (s : State) : State := resetWith s.noiseState s

/-- The hard reset (R340): noise_state after it is OPEN and comes with the event. -/
def hardReset (noise : Nat) (s : State) : State := resetWith noise s

end Sys2Proof.Machine
end

