-- ==== Sys2Proof/Machine/Flags.lean ====
section
/-!
DEFINITION. The valid flags with their chain and what they own (R48, R49), the words STATUS and
IRQ_EN read as (R25, R26), the acceptance test of a command (R270) and the interrupt line (R54).
-/

namespace Sys2Proof.Machine

open Sys2Proof

/-- The valid flags, STATUS[15:8] (R25). -/
inductive Flag where
  | msaV
  | msbV
  | goldV
  | chipV
  | sigV
  | rxNoisy
  | corrV
  | decV
deriving DecidableEq, Repr

/-- The rank of a flag in the chain (R49). -/
def flagRank (f : Flag) : Nat :=
  match f with
  | .msaV => 0
  | .msbV => 0
  | .goldV => 1
  | .chipV => 2
  | .sigV => 3
  | .rxNoisy => 4
  | .corrV => 5
  | .decV => 6

/-- `G in downstream(F)`: G has a greater rank than F (R49). -/
def isDownstream (f g : Flag) : Bool := decide (flagRank f < flagRank g)

/-- `invalidate(F)` clears G: G is F or downstream of it (R49). -/
def clears (f g : Flag) : Bool := f == g || isDownstream f g

/-- `invalidate(F)`: every flag it clears goes to 0 and what the flag owns is emptied (R49). -/
def invalidate (f : Flag) (s : State) : State :=
  { s with
    msa := if clears f .msaV then MseqBank.empty else s.msa
    msb := if clears f .msbV then MseqBank.empty else s.msb
    gold := if clears f .goldV then GoldBank.empty else s.gold
    chip := if clears f .chipV then ChipBank.empty else s.chip
    sig := if clears f .sigV then SigBank.empty else s.sig
    noisy := if clears f .rxNoisy then NoiseBank.empty else s.noisy
    corr := if clears f .corrV then CorrBank.empty else s.corr
    dec := if clears f .decV then DecBank.empty else s.dec }

/-- The value of a flag. -/
def flagValue (s : State) (f : Flag) : Bool :=
  match f with
  | .msaV => s.msa.valid
  | .msbV => s.msb.valid
  | .goldV => s.gold.valid
  | .chipV => s.chip.valid
  | .sigV => s.sig.valid
  | .rxNoisy => s.noisy.valid
  | .corrV => s.corr.valid
  | .decV => s.dec.valid

/-- STATUS[15:8] (R25). -/
def flagByte (s : State) : BitVec 8 :=
  BitVec.ofBool s.dec.valid ++ BitVec.ofBool s.corr.valid ++ BitVec.ofBool s.noisy.valid ++
    BitVec.ofBool s.sig.valid ++ BitVec.ofBool s.chip.valid ++ BitVec.ofBool s.gold.valid ++
    BitVec.ofBool s.msb.valid ++ BitVec.ofBool s.msa.valid

/-- BUSY: `pending ≠ none` (R25, R53). -/
def busy (s : State) : Bool := s.pending.isSome

/-- STATUS as it reads; its reserved bits read 0 (R25). -/
def statusWord (s : State) : Word :=
  0#16 ++ flagByte s ++ 0#3 ++ BitVec.ofBool s.status.aerr ++ BitVec.ofBool s.status.werr ++
    BitVec.ofBool s.status.err ++ BitVec.ofBool s.status.done ++ BitVec.ofBool (busy s)

/-- CTRL as it reads: SRST and the reserved bits read 0 (R24). -/
def ctrlWord (s : State) : Word :=
  0#29 ++ BitVec.ofBool s.ctrl.applyNoise ++ BitVec.ofBool s.ctrl.noiseSrc ++ 0#1

/-- IRQ_EN as it reads (R26). -/
def irqEnWord (s : State) : Word :=
  0#29 ++ BitVec.ofBool s.irqEn.errIe ++ BitVec.ofBool s.irqEn.doneIe ++ 0#1

/-- The level of the interrupt output (R54). It is a function of the state, so it is current after
every transaction, completion and reset. -/
def irq (s : State) : Bool :=
  (s.status.done && s.irqEn.doneIe) || (s.status.err && s.irqEn.errIe)

/-- A CMD write is accepted when the engine is idle and no error is unacknowledged (R270, R271). -/
def accepts (s : State) : Bool := !busy s && !s.status.err

/-- Acceptance (R270): CMD and the pending word take the word and DONE is cleared. -/
def acceptCommand (w : Word) (s : State) : State :=
  { s with cmd := w, pending := some w, status := { s.status with done := false } }

/-- Write one to clear (R279): bits 1 to 4 of the data clear DONE, ERR with its two registers, WERR
and AERR; the other bits do nothing. -/
def clearStatus (d : Word) (s : State) : State :=
  let s := if d.getLsbD 1 then { s with status := { s.status with done := false } } else s
  let s := if d.getLsbD 2 then clearError s else s
  let s := if d.getLsbD 3 then { s with status := { s.status with werr := false } } else s
  if d.getLsbD 4 then { s with status := { s.status with aerr := false } } else s

end Sys2Proof.Machine
end

