-- ==== Sys2Proof/Machine/Float64.lean ====
section
/-!
DEFINITION. The binary64 primitives of R11, computed exactly on integers and rounded once, to
nearest with ties to even, and the OPEN functions of R13 with their exact points.
-/

namespace Sys2Proof.Machine

open Sys2Proof

/-! ### Reading an encoding -/

/-- The sign bit of an f64. -/
def fNeg (a : F64) : Bool := a.msb

/-- The 11-bit exponent field of an f64. -/
def fExp (a : F64) : Nat := (a.extractLsb' 52 11).toNat

/-- The 52-bit fraction field of an f64. -/
def fFrac (a : F64) : Nat := (a.extractLsb' 0 52).toNat

/-- The encoding without its sign bit. -/
def fMagnitude (a : F64) : Nat := (a.extractLsb' 0 63).toNat

/-- `finite(a)` of R11: neither an infinity nor a NaN. -/
def finite (a : F64) : Bool := fExp a != 0x7FF

/-- a is a NaN. -/
def fIsNaN (a : F64) : Bool := fExp a == 0x7FF && fFrac a != 0

/-- a is an infinity. -/
def fIsInf (a : F64) : Bool := fExp a == 0x7FF && fFrac a == 0

/-- a is a zero of either sign. -/
def fIsZero (a : F64) : Bool := fMagnitude a == 0

/-- The integer significand of a finite f64: its magnitude is `fMant a * 2 ^ fScale a`. -/
def fMant (a : F64) : Nat := if fExp a = 0 then fFrac a else fFrac a + 2 ^ 52

/-- The power of two that one unit of `fMant a` stands for. -/
def fScale (a : F64) : Int := (max (fExp a) 1 : Nat) - 1075

/-- The signed integer significand of a finite f64. -/
def fSigned (a : F64) : Int := if fNeg a then -(fMant a : Int) else (fMant a : Int)

/-! ### Constants -/

/-- 1.0 -/
def fOne : F64 := 0x3FF0000000000000#64

/-- 0.5 -/
def fHalf : F64 := 0x3FE0000000000000#64

/-- 10.0 (R111) -/
def fTen : F64 := 0x4024000000000000#64

/-- 12.0 -/
def fTwelve : F64 := 0x4028000000000000#64

/-- +0.0 -/
def fZero : F64 := 0#64

/-- TWO_PI (R11) -/
def twoPi : F64 := 0x401921FB54442D18#64

/-! ### Writing an encoding -/

/-- A zero with the given sign. -/
def fSignedZero (neg : Bool) : F64 := BitVec.ofBool neg ++ 0#63

/-- An infinity with the given sign. -/
def fInfinity (neg : Bool) : F64 := BitVec.ofBool neg ++ 0x7FF0000000000000#63

/-- A NaN from free bits: the sign and payload are whatever the OPEN constant gives, and a payload
of 0, which would be an infinity, becomes the quiet bit alone (93 I9). -/
def fNaN (free : BitVec 53) : F64 :=
  let payload : BitVec 52 := free.extractLsb' 0 52
  BitVec.ofBool free.msb ++ 0x7FF#11 ++ (if payload = 0#52 then 0x8000000000000#52 else payload)

/-- Divide `m` by `2 ^ sh`, to nearest with ties to even; `sticky` says that the exact value lies
above `m` by less than one unit. -/
def roundShift (m sh : Nat) (sticky : Bool) : Nat :=
  if sh = 0 then m
  else
    let kept := m / 2 ^ sh
    let rest := m % 2 ^ sh
    let half := 2 ^ (sh - 1)
    if rest > half ∨ (rest = half ∧ (sticky ∨ kept % 2 = 1)) then kept + 1 else kept

/-- The binary64 value nearest `±(m + d) * 2 ^ e`, where `0 < d < 1` if `sticky` and `d = 0`
otherwise (R11). A result above the largest finite value is an infinity. With `sticky`, `m` has at
least 55 bits. -/
def roundPack (neg : Bool) (m : Nat) (e : Int) (sticky : Bool) : F64 :=
  if m = 0 then fSignedZero neg
  else
    let unit : Int := max (e + Nat.log2 m - 52) (-1074)
    let mant := if unit ≤ e then m * 2 ^ (e - unit).toNat else roundShift m (unit - e).toNat sticky
    let code := mant + (unit + 1074).toNat * 2 ^ 52
    if code < 0x7FF * 2 ^ 52 then BitVec.ofBool neg ++ BitVec.ofNat 63 code else fInfinity neg

/-- The binary64 value nearest `m * 2 ^ e` for a signed significand, with the sign `negZero` for an
exact zero. -/
def roundSigned (m : Int) (e : Int) (negZero : Bool) : F64 :=
  if m = 0 then fSignedZero negZero else roundPack (decide (m < 0)) m.natAbs e false

/-! ### The arithmetic primitives of R11 -/

/-- `fneg(a)`: the sign flip, exact. -/
def fneg (a : F64) : F64 := a ^^^ 0x8000000000000000#64

/-- The sum of two encodings, a NaN result taking the free bits given. -/
def addWith (free : BitVec 53) (a b : F64) : F64 :=
  if fIsNaN a ∨ fIsNaN b then fNaN free
  else if fIsInf a then
    if fIsInf b ∧ fNeg a ≠ fNeg b then fNaN free else a
  else if fIsInf b then b
  else
    let e := min (fScale a) (fScale b)
    let sum := fSigned a * 2 ^ (fScale a - e).toNat + fSigned b * 2 ^ (fScale b - e).toNat
    roundSigned sum e (fNeg a && fNeg b)

/-- `fadd(a, b)` (R11). -/
def fadd (a b : F64) : F64 := addWith (Config.nanBits .add a b) a b

/-- `fsub(a, b)` (R11): the sum of a and b with its sign flipped. -/
def fsub (a b : F64) : F64 := addWith (Config.nanBits .sub a b) a (fneg b)

/-- `fmul(a, b)` (R11). -/
def fmul (a b : F64) : F64 :=
  let neg := xor (fNeg a) (fNeg b)
  if fIsNaN a ∨ fIsNaN b then fNaN (Config.nanBits .mul a b)
  else if fIsInf a ∨ fIsInf b then
    if fIsZero a ∨ fIsZero b then fNaN (Config.nanBits .mul a b) else fInfinity neg
  else roundPack neg (fMant a * fMant b) (fScale a + fScale b) false

/-- `fdiv(a, b)` (R11). The quotient is taken to 110 more bits, which leaves at least 55. -/
def fdiv (a b : F64) : F64 :=
  let neg := xor (fNeg a) (fNeg b)
  if fIsNaN a ∨ fIsNaN b then fNaN (Config.nanBits .div a b)
  else if fIsInf a then
    if fIsInf b then fNaN (Config.nanBits .div a b) else fInfinity neg
  else if fIsInf b then fSignedZero neg
  else if fIsZero b then
    if fIsZero a then fNaN (Config.nanBits .div a b) else fInfinity neg
  else
    let n := fMant a * 2 ^ 110
    roundPack neg (n / fMant b) (fScale a - fScale b - 110) (n % fMant b != 0)

/-- The integer square root of `n`, from bit `k - 1` of the root down: `root` holds the bits found. -/
def isqrtBits (n : Nat) : Nat → Nat → Nat
  | 0, root => root
  | k + 1, root =>
    let trial := root + 2 ^ k
    isqrtBits n k (if trial * trial ≤ n then trial else root)

/-- `fsqrt(a)`, correctly rounded (R11). The significand is taken to 110 or 111 more bits, so that
the exponent is even and the root has at least 55 bits. -/
def fsqrt (a : F64) : F64 :=
  if fIsNaN a then fNaN (Config.nanBits .sqrt a 0#64)
  else if fIsZero a then a
  else if fNeg a then fNaN (Config.nanBits .sqrt a 0#64)
  else if fIsInf a then a
  else
    let odd := (fScale a % 2).toNat
    let n := fMant a * 2 ^ (110 + odd)
    let root := isqrtBits n 83 0
    roundPack false root ((fScale a - odd - 110) / 2) (root * root != n)

/-- `f64(n)`: the binary64 value nearest the integer n (R11). -/
def f64OfNat (n : Nat) : F64 := roundPack false n 0 false

/-- `fsum(xs)`: the left fold from +0.0, in index order (R11). -/
def fsum (xs : List F64) : F64 := xs.foldl fadd fZero

/-! ### Comparisons (R11) -/

/-- The place of a non-NaN value in the order of values: both zeros are 0. -/
def fOrder (a : F64) : Int := if fNeg a then -(fMagnitude a : Int) else (fMagnitude a : Int)

/-- `a > b`, the IEEE comparison: false when either operand is a NaN. -/
def fgt (a b : F64) : Bool := !fIsNaN a && !fIsNaN b && decide (fOrder b < fOrder a)

/-- `a = b`, the IEEE comparison: false when either operand is a NaN, true for zeros of either
sign. -/
def feq (a b : F64) : Bool := !fIsNaN a && !fIsNaN b && decide (fOrder a = fOrder b)

/-! ### The OPEN functions at and away from their exact points (R13) -/

/-- COS, with COS(+0.0) = 1.0. -/
def cosOf (x : F64) : F64 := if x = fZero then fOne else Config.cos x

/-- SIN, with SIN(+0.0) = +0.0. -/
def sinOf (x : F64) : F64 := if x = fZero then fZero else Config.sin x

/-- EXP10: 1.0 at either zero, 10^k at the integers k = 1..22, the f64 nearest 0.1 at -1. The other
negative powers of ten are not representable, so R13 leaves them OPEN. A NaN gives a NaN with free
bits, since R200 says that SNR_DB = NaN gives a NaN norm (DEDUCED: log entry 5). -/
def exp10Of (x : F64) : F64 :=
  if fIsNaN x then fNaN ((Config.exp10 x).extractLsb' 0 53)
  else if fIsZero x then fOne
  else if x = fneg fOne then 0x3FB999999999999A#64
  else
    match (List.range 22).find? (fun k => x == f64OfNat (k + 1)) with
    | some k => f64OfNat (10 ^ (k + 1))
    | none => Config.exp10 x

/-- UNIFORM's draw at a place of the stream, in [-1.0, 1.0] (R201): a stream value outside the range
counts as +0.0 (DESIGN CHOICE: log entry 6). -/
def uniformDraw (place : Nat) : F64 :=
  let u := Config.uniform place
  if fMagnitude u ≤ fMagnitude fOne then u else fZero

end Sys2Proof.Machine
end

