-- ==== Sys2Proof/Machine/Operands.lean ====
section
/-!
DEFINITION. The operand forms: the halves of an f64 (R73), the register map (R23), the buffers by
id (R50), the buffer port (R76), the fields commands take from registers (R103), and the derived
rates (R15).
-/

namespace Sys2Proof.Machine

open Sys2Proof

/-! ### Words and halves -/

/-- Bits [31:0] of an f64 encoding (R73). -/
def loHalf (x : F64) : Word := x.extractLsb' 0 32

/-- Bits [63:32] of an f64 encoding (R73). -/
def hiHalf (x : F64) : Word := x.extractLsb' 32 32

/-- Replace the low half, keeping the high one (R73). -/
def withLo (x : F64) (d : Word) : F64 := hiHalf x ++ d

/-- Replace the high half, keeping the low one (R73). -/
def withHi (x : F64) (d : Word) : F64 := d ++ loHalf x

/-- A bit as an f64 element's 64 bits: the bit, then zeros (R50, R76). -/
def bitElement (b : Bool) : F64 := (BitVec.ofBool b).setWidth 64

/-- The bytes of a register on a byte-wide view of the little-endian window: lane b holds bits
[8b+7:8b] (R72). -/
def byteLane (w : Word) (b : Fin 4) : BitVec 8 := w.extractLsb' (8 * b.val) 8

/-- The bus address of an offset (R90, R277). -/
def effectiveAddress (offset : BitVec 12) : Nat := Config.base + offset.toNat

/-! ### The register map (R23) -/

/-- The registers of R23, in the order of its table. -/
inductive Reg where
  | id
  | version
  | ctrl
  | cmd
  | status
  | irqEn
  | errCode
  | errInfo
  | tapsA
  | tapsB
  | shifts
  | lfsrState
  | nBits
  | bps
  | spc
  | f0Lo
  | f0Hi
  | phi0Lo
  | phi0Hi
  | snrDbLo
  | snrDbHi
  | a0Lo
  | a0Hi
  | nChips
  | nSamp
  | refLen
  | corrLen
  | nDec
  | berErrs
  | berDen
  | berLo
  | berHi
  | normLo
  | normHi
  | decCbf
  | decInterval
  | decStartEnd
  | maxBits
  | maxSamples
  | bufSel
  | bufIndex
  | bufDataLo
  | bufDataHi
  | bufLen
deriving DecidableEq, Repr

/-- The register at a byte offset, or none where the offset is unmapped (R23, R47). -/
def regAt (offset : Nat) : Option Reg :=
  match offset with
  | 0x000 => some .id
  | 0x004 => some .version
  | 0x008 => some .ctrl
  | 0x00C => some .cmd
  | 0x010 => some .status
  | 0x014 => some .irqEn
  | 0x018 => some .errCode
  | 0x01C => some .errInfo
  | 0x020 => some .tapsA
  | 0x024 => some .tapsB
  | 0x028 => some .shifts
  | 0x02C => some .lfsrState
  | 0x030 => some .nBits
  | 0x034 => some .bps
  | 0x038 => some .spc
  | 0x040 => some .f0Lo
  | 0x044 => some .f0Hi
  | 0x048 => some .phi0Lo
  | 0x04C => some .phi0Hi
  | 0x050 => some .snrDbLo
  | 0x054 => some .snrDbHi
  | 0x058 => some .a0Lo
  | 0x05C => some .a0Hi
  | 0x060 => some .nChips
  | 0x064 => some .nSamp
  | 0x068 => some .refLen
  | 0x06C => some .corrLen
  | 0x070 => some .nDec
  | 0x074 => some .berErrs
  | 0x078 => some .berDen
  | 0x080 => some .berLo
  | 0x084 => some .berHi
  | 0x088 => some .normLo
  | 0x08C => some .normHi
  | 0x090 => some .decCbf
  | 0x094 => some .decInterval
  | 0x098 => some .decStartEnd
  | 0x0A0 => some .maxBits
  | 0x0A4 => some .maxSamples
  | 0x0C0 => some .bufSel
  | 0x0C4 => some .bufIndex
  | 0x0C8 => some .bufDataLo
  | 0x0CC => some .bufDataHi
  | 0x0D0 => some .bufLen
  | _ => none

/-- The register a transaction reaches: none for a bad access, which is one whose byte enables are
not all four, whose offset is no multiple of 4, or whose offset is unmapped (R74, R75). -/
def target (be : BitVec 4) (offset : BitVec 12) : Option Reg :=
  if be = 0xF#4 ∧ offset.toNat % 4 = 0 then regAt offset.toNat else none

/-! ### The buffers (R50) -/

/-- The buffers of R50 that have an id. -/
inductive BufId where
  | bits
  | mseqA
  | mseqB
  | gold (k : Fin 4)
  | chips
  | sigI
  | sigQ
  | env
  | nraw
  | noise
  | rx
  | time
  | ref (k : Fin 4)
  | corr (k : Fin 4)
  | dec
deriving DecidableEq, Repr

/-- The buffer a BUF_SEL value selects; ids 24..31 are reserved (R50). -/
def bufferOf (sel : BitVec 5) : Option BufId :=
  match sel.toNat with
  | 0 => some .bits
  | 1 => some .mseqA
  | 2 => some .mseqB
  | 3 => some (.gold 0)
  | 4 => some (.gold 1)
  | 5 => some (.gold 2)
  | 6 => some (.gold 3)
  | 7 => some .chips
  | 8 => some .sigI
  | 9 => some .sigQ
  | 10 => some .env
  | 11 => some .nraw
  | 12 => some .noise
  | 13 => some .rx
  | 14 => some .time
  | 15 => some (.ref 0)
  | 16 => some (.ref 1)
  | 17 => some (.ref 2)
  | 18 => some (.ref 3)
  | 19 => some (.corr 0)
  | 20 => some (.corr 1)
  | 21 => some (.corr 2)
  | 22 => some (.corr 3)
  | 23 => some .dec
  | _ => none

/-! ### Operands of commands (R15, R103) -/

/-- `fd = f64(SPC · BPS)` (R15). -/
def sampleRate (s : State) : F64 := f64OfNat (s.spc.toNat * s.bps.toNat)

/-- `dt = fdiv(1.0, fd)` (R15). -/
def samplePeriod (s : State) : F64 := fdiv fOne (sampleRate s)

/-- The time stamp of element k: `fmul(f64(k), dt)` (R14, R50). -/
def timeStamp (s : State) (k : Nat) : F64 := fmul (f64OfNat k) (samplePeriod s)

/-- `shift_k`, bits [8k+7:8k] of SHIFTS (R103). -/
def shiftField (s : State) (k : Fin 4) : BitVec 8 := s.shifts.extractLsb' (8 * k.val) 8

/-! ### Reading a buffer (R46, R76) -/

/-- `len(buf[B])` (R46, R50). TIME has the length of the signal buffers, N_SAMP. -/
def bufferLen (s : State) (b : BufId) : Nat :=
  match b with
  | .bits => s.maxBits.toNat
  | .mseqA => s.msa.seq.length
  | .mseqB => s.msb.seq.length
  | .gold k => (s.gold.codes.get k).length
  | .chips => s.chip.chips.length
  | .sigI => s.sig.sigI.length
  | .sigQ => s.sig.sigQ.length
  | .env => s.sig.env.length
  | .nraw => s.maxSamples.toNat
  | .noise => s.noisy.noise.length
  | .rx => s.sig.rx.length
  | .time => s.sig.nSamp.toNat
  | .ref k => (s.corr.refs.get k).length
  | .corr k => (s.corr.traces.get k).length
  | .dec => s.dec.dec.length

/-- Element k of a buffer as its 64 bits: an f64's encoding, or a bit in bit 0 (R50, R76). -/
def bufferElement (s : State) (b : BufId) (k : Nat) : F64 :=
  match b with
  | .bits => bitElement (readBit s k)
  | .mseqA => bitElement (s.msa.seq.getD k false)
  | .mseqB => bitElement (s.msb.seq.getD k false)
  | .gold j => bitElement ((s.gold.codes.get j).getD k false)
  | .chips => bitElement (s.chip.chips.getD k false)
  | .sigI => s.sig.sigI.getD k fZero
  | .sigQ => s.sig.sigQ.getD k fZero
  | .env => s.sig.env.getD k fZero
  | .nraw => readNraw s k
  | .noise => s.noisy.noise.getD k fZero
  | .rx => s.sig.rx.getD k fZero
  | .time => timeStamp s k
  | .ref j => (s.corr.refs.get j).getD k fZero
  | .corr j => (s.corr.traces.get j).getD k fZero
  | .dec => bitElement (s.dec.dec.getD k false)

/-- The element the port selects, or none where BUF_SEL is reserved or BUF_INDEX is out of range
(R76). -/
def portElement (s : State) : Option F64 :=
  match bufferOf s.bufSel with
  | none => none
  | some b =>
    if s.bufIndex.toNat < bufferLen s b then some (bufferElement s b s.bufIndex.toNat) else none

/-- What BUF_LEN reads (R46). -/
def portLen (s : State) : Word :=
  match bufferOf s.bufSel with
  | none => 0#32
  | some b => BitVec.ofNat 32 (bufferLen s b)

end Sys2Proof.Machine
end

