-- ==== Sys2Proof/Machine/HostOps.lean ====
section
/-!
DEFINITION. The host operations RD and WR (R277, R278) with the rules they go through: bad accesses
(R74, R75), the buffer port (R76 to R79), writes while BUSY (R281), command acceptance and
rejection (R270, R271), STATUS write-one-to-clear (R279) and the soft reset (R280).
-/

namespace Sys2Proof.Machine

open Sys2Proof

/-- The value a register reads (R23, R277), or none for a bad access through the buffer port
(R76). -/
def readReg (s : State) (r : Reg) : Option Word :=
  match r with
  | .id => some Config.idWord
  | .version => some Config.versionWord
  | .ctrl => some (ctrlWord s)
  | .cmd => some s.cmd
  | .status => some (statusWord s)
  | .irqEn => some (irqEnWord s)
  | .errCode => some (s.errCode.setWidth 32)
  | .errInfo => some s.errInfo
  | .tapsA => some (s.tapsA.setWidth 32)
  | .tapsB => some (s.tapsB.setWidth 32)
  | .shifts => some s.shifts
  | .lfsrState => some (s.lfsr.setWidth 32)
  | .nBits => some s.nBits
  | .bps => some s.bps
  | .spc => some s.spc
  | .f0Lo => some (loHalf s.f0)
  | .f0Hi => some (hiHalf s.f0)
  | .phi0Lo => some (loHalf s.phi0)
  | .phi0Hi => some (hiHalf s.phi0)
  | .snrDbLo => some (loHalf s.snrDb)
  | .snrDbHi => some (hiHalf s.snrDb)
  | .a0Lo => some (loHalf s.a0)
  | .a0Hi => some (hiHalf s.a0)
  | .nChips => some s.chip.nChips
  | .nSamp => some s.sig.nSamp
  | .refLen => some s.corr.refLen
  | .corrLen => some s.corr.corrLen
  | .nDec => some s.dec.nDec
  | .berErrs => some s.dec.berErrs
  | .berDen => some s.dec.berDen
  | .berLo => some (loHalf s.dec.ber)
  | .berHi => some (hiHalf s.dec.ber)
  | .normLo => some (loHalf s.noisy.norm)
  | .normHi => some (hiHalf s.noisy.norm)
  | .decCbf => some s.dec.cbf
  | .decInterval => some s.dec.interval
  | .decStartEnd => some s.dec.startEnd
  | .maxBits => some s.maxBits
  | .maxSamples => some s.maxSamples
  | .bufSel => some (s.bufSel.setWidth 32)
  | .bufIndex => some s.bufIndex
  | .bufDataLo => (portElement s).map loHalf
  | .bufDataHi => (portElement s).map hiHalf
  | .bufLen => some (portLen s)

/-- A host read: a bad access reads 0 and sets AERR, any other read has no side effect (R74 to R76,
R81). -/
def hostRead (be : BitVec 4) (offset : BitVec 12) (s : State) : State :=
  match (target be offset).bind (readReg s) with
  | some v => { s with readData := v }
  | none => { setAerr s with readData := 0#32 }

/-- A CMD write (R270, R271). -/
def writeCmd (w : Word) (s : State) : State := if accepts s then acceptCommand w s else setWerr s

/-- A CTRL write (R24, R280). -/
def writeCtrl (d : Word) (s : State) : State :=
  if d.getLsbD 0 then softReset s
  else { s with ctrl := ⟨d.getLsbD 1, d.getLsbD 2⟩ }

/-- A write to BUF_DATA_LO (`hi` false) or BUF_DATA_HI (`hi` true) through the port (R77 to R79). -/
def writePort (hi : Bool) (d : Word) (s : State) : State :=
  let k := s.bufIndex.toNat
  match bufferOf s.bufSel with
  | none => setAerr s
  | some .bits =>
    if k < s.maxBits.toNat then
      invalidate .chipV (if hi then s else writeBit s k (d.getLsbD 0))
    else setAerr s
  | some .nraw =>
    if k < s.maxSamples.toNat then
      writeNraw s k (if hi then withHi (readNraw s k) d else withLo (readNraw s k) d)
    else setAerr s
  | some _ => setWerr s

/-- A write to a register while BUSY = 0 (R278): the writable bits are stored, with the side effects
of R48, R77 to R80, R270, R271, R279 and R280; a write to a read-only register sets WERR. -/
def writeReg (r : Reg) (d : Word) (s : State) : State :=
  match r with
  | .ctrl => writeCtrl d s
  | .cmd => writeCmd d s
  | .status => clearStatus d s
  | .irqEn => { s with irqEn := ⟨d.getLsbD 1, d.getLsbD 2⟩ }
  | .tapsA => { invalidate .msaV s with tapsA := d.extractLsb' 0 6 }
  | .tapsB => { invalidate .msbV s with tapsB := d.extractLsb' 0 6 }
  | .shifts => { invalidate .goldV s with shifts := d }
  | .nBits => { invalidate .chipV s with nBits := d }
  | .bps => { invalidate .sigV s with bps := d }
  | .spc => { invalidate .sigV s with spc := d }
  | .f0Lo => { invalidate .sigV s with f0 := withLo s.f0 d }
  | .f0Hi => { invalidate .sigV s with f0 := withHi s.f0 d }
  | .phi0Lo => { invalidate .sigV s with phi0 := withLo s.phi0 d }
  | .phi0Hi => { invalidate .sigV s with phi0 := withHi s.phi0 d }
  | .snrDbLo => { s with snrDb := withLo s.snrDb d }
  | .snrDbHi => { s with snrDb := withHi s.snrDb d }
  | .a0Lo => { s with a0 := withLo s.a0 d }
  | .a0Hi => { s with a0 := withHi s.a0 d }
  | .bufSel => { s with bufSel := d.extractLsb' 0 5 }
  | .bufIndex => { s with bufIndex := d }
  | .bufDataLo => writePort false d s
  | .bufDataHi => writePort true d s
  | .id => setWerr s
  | .version => setWerr s
  | .errCode => setWerr s
  | .errInfo => setWerr s
  | .lfsrState => setWerr s
  | .nChips => setWerr s
  | .nSamp => setWerr s
  | .refLen => setWerr s
  | .corrLen => setWerr s
  | .nDec => setWerr s
  | .berErrs => setWerr s
  | .berDen => setWerr s
  | .berLo => setWerr s
  | .berHi => setWerr s
  | .normLo => setWerr s
  | .normHi => setWerr s
  | .decCbf => setWerr s
  | .decInterval => setWerr s
  | .decStartEnd => setWerr s
  | .maxBits => setWerr s
  | .maxSamples => setWerr s
  | .bufLen => setWerr s

/-- A write that reaches a register: while BUSY it is dropped with WERR, but for a soft reset (R280,
R281). -/
def acceptedWrite (r : Reg) (d : Word) (s : State) : State :=
  if busy s then
    if r = .ctrl ∧ d.getLsbD 0 then softReset s else setWerr s
  else writeReg r d s

/-- A bad write: ignored, AERR is set (R74, R75); while BUSY it is a dropped write too, so WERR is set
as well (R281; DEDUCED, unsafe: log entry 9). -/
def badWrite (s : State) : State := setAerr (if busy s then setWerr s else s)

/-- A host write (R278). -/
def hostWrite (be : BitVec 4) (offset : BitVec 12) (d : Word) (s : State) : State :=
  match target be offset with
  | some r => acceptedWrite r d s
  | none => badWrite s

/-- RD (R277). The DATA field of a read has no effect. -/
def execRd (be : BitVec 4) (offset : BitVec 12) (s : State) : Host.Outcome State Fault Refusal :=
  .next (hostRead be offset s)

/-- WR (R278). -/
def execWr (be : BitVec 4) (offset : BitVec 12) (data : Word) (s : State) :
    Host.Outcome State Fault Refusal :=
  .next (hostWrite be offset data s)

end Sys2Proof.Machine
end

