-- ==== Sys2Proof/Machine/MSeq.lean ====
section
/-!
DEFINITION. Family 1, M-sequence generation: the shift register and the two GEN_MSEQ commands
(R130 to R132).
-/

namespace Sys2Proof.Machine

open Sys2Proof

/-- The XOR of the six bits (R9). -/
def parity (v : Stages) : Bool := (List.range 6).foldl (fun acc j => xor acc (v.getLsbD j)) false

/-- One generation step (R131): the output bit is the old `register[5]`, and the feedback is computed
from the register before the shift. -/
def lfsrStep (taps r : Stages) : Bool × Stages :=
  (r.getLsbD 5, r.extractLsb' 0 5 ++ BitVec.ofBool (parity (taps &&& r)))

/-- `n` generation steps from the register `r`: the outputs in order, and the register after them. -/
def lfsrRun (taps : Stages) : Nat → Stages → List Bool × Stages
  | 0, r => ([], r)
  | n + 1, r =>
    let o := lfsrStep taps r
    let rest := lfsrRun taps n o.2
    (o.1 :: rest.1, rest.2)

/-- `mseq(taps)` (R132): 63 steps from the seed. -/
def mseq (taps : Stages) : List Bool × Stages := lfsrRun taps Config.codeLen Config.lfsrSeed

/-- GEN_MSEQ with SEL = 0 (R132). -/
def genMseqA (s : State) : Result :=
  let m := mseq s.tapsA
  .committed { invalidate .goldV s with msa := ⟨true, m.1⟩, lfsr := m.2 }

/-- GEN_MSEQ with SEL = 1 (R132). -/
def genMseqB (s : State) : Result :=
  let m := mseq s.tapsB
  .committed { invalidate .goldV s with msb := ⟨true, m.1⟩, lfsr := m.2 }

/-- The completion of GEN_MSEQ A (R132, R272). -/
def execGenMseqA (s : State) : Host.Outcome State Fault Refusal := .next (complete (genMseqA s))

/-- The completion of GEN_MSEQ B (R132, R272). -/
def execGenMseqB (s : State) : Host.Outcome State Fault Refusal := .next (complete (genMseqB s))

end Sys2Proof.Machine
end

