-- ==== Sys2Proof/Machine/Gold.lean ====
section
/-!
DEFINITION. Family 2, Gold code construction: BUILD_GOLD with its checks (R150 to R152).
-/

namespace Sys2Proof.Machine

open Sys2Proof

/-- `rotR(b, s)` (R150): element i is `b[(i - s) mod 63]`, for a shift below 63. -/
def rotR (b : List Bool) (shift : Nat) : List Bool :=
  (List.range Config.codeLen).map
    (fun i => b.getD ((i + (Config.codeLen - shift)) % Config.codeLen) false)

/-- `gold(A, B, s)` (R151): the XOR of A with B rotated right. -/
def goldCode (a b : List Bool) (shift : Nat) : List Bool := List.zipWith xor a (rotR b shift)

/-- The symbol indices in table order. -/
def symbols : List (Fin 4) := [0, 1, 2, 3]

/-- The pairs j < k of symbol indices, in the order R152 checks them. -/
def symbolPairs : List (Fin 4 × Fin 4) := [(0, 1), (0, 2), (0, 3), (1, 2), (1, 3), (2, 3)]

/-- The first shift that is 63 or more (R152). -/
def shiftRangeError (s : State) : Option CmdError :=
  (symbols.find? (fun k => 63 ≤ (shiftField s k).toNat)).map
    (fun k => .shiftRange k (shiftField s k))

/-- The first two equal shifts (R152). -/
def shiftDupError (s : State) : Option CmdError :=
  (symbolPairs.find? (fun p => shiftField s p.1 == shiftField s p.2)).map
    (fun p => .shiftDup p.1 p.2)

/-- The table of the current taps and shifts (R151). -/
def goldTable (s : State) : Four (List Bool) :=
  Four.ofFn (fun k => goldCode (mseq s.tapsA).1 (mseq s.tapsB).1 (shiftField s k).toNat)

/-- The first two equal codes (R152). -/
def goldDupError (table : Four (List Bool)) : Option CmdError :=
  (symbolPairs.find? (fun p => table.get p.1 == table.get p.2)).map
    (fun p => .goldNotDistinct p.1 p.2)

/-- What BUILD_GOLD commits (R152): B is generated second, so LFSR_STATE is its register. -/
def goldCommit (s : State) : State :=
  { invalidate .chipV s with
    msa := ⟨true, (mseq s.tapsA).1⟩
    msb := ⟨true, (mseq s.tapsB).1⟩
    gold := ⟨true, goldTable s⟩
    lfsr := (mseq s.tapsB).2 }

/-- BUILD_GOLD (R152). -/
def buildGold (s : State) : Result :=
  match shiftRangeError s with
  | some e => .failed s e
  | none =>
    match shiftDupError s with
    | some e => .failed s e
    | none =>
      match goldDupError (goldTable s) with
      | some e => .failed s e
      | none => .committed (goldCommit s)

/-- The completion of BUILD_GOLD (R152, R272). -/
def execBuildGold (s : State) : Host.Outcome State Fault Refusal := .next (complete (buildGold s))

end Sys2Proof.Machine
end

