-- ==== Sys2Proof/Machine/Spread.lean ====
section
/-!
DEFINITION. Family 3, bit-to-chip spreading: SPREAD (R170 to R172).
-/

namespace Sys2Proof.Machine

open Sys2Proof

/-- The symbol index of a bit pair, `b0 + 2·b1` (R14, R171). -/
def symbolIndex (b0 b1 : Bool) : Fin 4 :=
  match b0, b1 with
  | false, false => 0
  | true, false => 1
  | false, true => 2
  | true, true => 3

/-- The symbol of bits 2k and 2k+1 of BITS (R170). -/
def inputSymbol (s : State) (k : Nat) : Fin 4 :=
  symbolIndex (readBit s (2 * k)) (readBit s (2 * k + 1))

/-- The chips of the input bits: the Gold code of each bit pair, in order; an odd last bit is dropped
(R170, R172). -/
def spreadChips (s : State) : List Bool :=
  (List.range (s.nBits.toNat / 2)).flatMap (fun k => s.gold.codes.get (inputSymbol s k))

/-- What SPREAD commits (R170). -/
def spreadCommit (s : State) : State :=
  { invalidate .sigV s with
    chip := ⟨true, spreadChips s, BitVec.ofNat 32 (63 * (s.nBits.toNat / 2))⟩ }

/-- SPREAD (R170). -/
def spread (s : State) : Result :=
  if s.gold.valid = false then .failed s (.noGold (flagByte s))
  else if s.nBits = 0#32 then .failed s .emptyBits
  else if s.nBits.toNat > s.maxBits.toNat then .failed s (.nBitsRange s.nBits)
  else .committed (spreadCommit s)

/-- The completion of SPREAD (R170, R272). -/
def execSpread (s : State) : Host.Outcome State Fault Refusal := .next (complete (spread s))

end Sys2Proof.Machine
end

