-- ==== Sys2Proof/Machine/Synth.lean ====
section
/-!
DEFINITION. Family 4, carrier modulation and I/Q sampling: SYNTH and the checks on the signal
parameters (R180 to R184).
-/

namespace Sys2Proof.Machine

open Sys2Proof

/-- A chip centred as `c - 0.5` (R182). -/
def centred (c : Bool) : F64 := fsub (f64OfNat c.toNat) fHalf

/-- `carrier(I, Q, idx, dt, f0, phi0)` (R181); phi0 enters the sine term only. -/
def carrier (i q : F64) (idx : Nat) (dt f0 phi0 : F64) : F64 :=
  let t := fmul (f64OfNat idx) dt
  let th := fmul (fmul twoPi f0) t
  fsub (fmul i (cosOf th)) (fmul q (sinOf (fadd th phi0)))

/-- The carrier sample of index `idx` under the current rates and carrier values. -/
def carrierSample (s : State) (i q : F64) (idx : Nat) : F64 :=
  carrier i q idx (samplePeriod s) s.f0 s.phi0

/-- `2·SPC·floor(nChips/2)`, the samples of `nChips` chips (R183). -/
def sampleCount (spc nChips : Nat) : Nat := 2 * spc * (nChips / 2)

/-- `check_signal_config(0x04)` for a chip count (R184): the first failing check. -/
def signalConfigError (s : State) (nChips : Nat) : Option CmdError :=
  if s.bps = 0#32 then some .bpsZero
  else if s.spc.toNat < 2 then some (.spcTooSmall s.spc)
  else if finite s.f0 = false then some (.f0NonFinite s.f0)
  else if finite s.phi0 = false then some (.phi0NonFinite s.phi0)
  else if sampleCount s.spc.toNat nChips > s.maxSamples.toNat then
    some (.samplesRange 0x04#8 (sampleCount s.spc.toNat nChips))
  else none

/-- The centred value of chip `m` of CHIPS. -/
def chipLevel (s : State) (m : Nat) : F64 := centred (s.chip.chips.getD m false)

/-- The sample indices of chip pair `p`, each with its pair: 2·SPC samples a pair (R180, R183). -/
def pairSamples (s : State) (f : Nat → Nat → F64) : List F64 :=
  (List.range (s.chip.nChips.toNat / 2)).flatMap
    (fun p => (List.range (2 * s.spc.toNat)).map (fun j => f p (p * (2 * s.spc.toNat) + j)))

/-- SIG_I: the first chip of each pair, held over the pair (R180, R182). -/
def synthI (s : State) : List F64 := pairSamples s (fun p _ => chipLevel s (2 * p))

/-- SIG_Q: the second chip of each pair, held over the pair (R180, R182). -/
def synthQ (s : State) : List F64 := pairSamples s (fun p _ => chipLevel s (2 * p + 1))

/-- ENV: the carrier samples (R180, R181). -/
def synthEnv (s : State) : List F64 :=
  pairSamples s (fun p idx => carrierSample s (chipLevel s (2 * p)) (chipLevel s (2 * p + 1)) idx)

/-- What SYNTH commits (R180): RX starts as a copy of ENV. -/
def synthCommit (s : State) : State :=
  { invalidate .rxNoisy s with
    sig := ⟨true, synthI s, synthQ s, synthEnv s, synthEnv s,
      BitVec.ofNat 32 (sampleCount s.spc.toNat s.chip.nChips.toNat)⟩ }

/-- SYNTH (R180). -/
def synth (s : State) : Result :=
  if s.chip.valid = false then .failed s (.noChips (flagByte s))
  else
    match signalConfigError s s.chip.nChips.toNat with
    | some e => .failed s e
    | none => .committed (synthCommit s)

/-- The completion of SYNTH (R180, R272). -/
def execSynth (s : State) : Host.Outcome State Fault Refusal := .next (complete (synth s))

end Sys2Proof.Machine
end

