-- ==== Sys2Proof/Machine/Noise.lean ====
section
/-!
DEFINITION. Family 5, noise injection: ADD_NOISE (R200 to R207).
-/

namespace Sys2Proof.Machine

open Sys2Proof

/-- Gaussian sample k from twelve UNIFORM draws of the stream, starting at `place` (R201). -/
def uniformGaussian (place k : Nat) : F64 :=
  fdiv (fsum ((List.range 12).map (fun d => uniformDraw (place + 12 * k + d)))) fTwelve

/-- `gaussian_samples(N)`: from NRAW when NOISE_SRC = 1, else from UNIFORM (R201, R202). -/
def gaussianSamples (s : State) (n : Nat) : List F64 :=
  if s.ctrl.noiseSrc then (List.range n).map (readNraw s)
  else (List.range n).map (uniformGaussian s.noiseState)

/-- The draws that `gaussian_samples(N)` takes: 12 a sample from UNIFORM, none from NRAW (R201,
R202). -/
def takeDraws (s : State) (n : Nat) : State :=
  if s.ctrl.noiseSrc then s else { s with noiseState := s.noiseState + 12 * n }

/-- The energy of a sequence: the left fold of the squares (R203). -/
def energy (xs : List F64) : F64 := fsum (xs.map (fun x => fmul x x))

/-- `norm = fsqrt((lin · es) / en)` with `lin = EXP10(-snrDb / 10)` (R203). -/
def noiseNorm (snrDb es en : F64) : F64 :=
  fsqrt (fdiv (fmul (exp10Of (fdiv (fneg snrDb) fTen)) es) en)

/-- The scaled noise (R204). -/
def scaledNoise (g : List F64) (norm : F64) : List F64 := g.map (fun x => fmul x norm)

/-- The received envelope: each scaled noise sample added to the envelope sample of its index
(R204). -/
def receivedWith (env noise : List F64) : List F64 := List.zipWith fadd env noise

/-- The first index at which a sequence is not finite. -/
def firstNonFinite (xs : List F64) : Option Nat := xs.findIdx? (fun x => !finite x)

/-- The elements 0 .. n-1 of a sequence. -/
def samplesOf (xs : List F64) (n : Nat) : List F64 := xs.takeD n fZero

/-- norm for Gaussian samples `g` and the current envelope and SNR_DB (R203). -/
def gaussNorm (g : List F64) (s : State) : F64 :=
  noiseNorm s.snrDb (energy (samplesOf s.sig.env s.sig.nSamp.toNat)) (energy g)

/-- The received envelope for Gaussian samples `g` scaled by `norm` (R204). -/
def noisyRx (g : List F64) (norm : F64) (s : State) : List F64 :=
  receivedWith (samplesOf s.sig.env s.sig.nSamp.toNat) (scaledNoise g norm)

/-- What ADD_NOISE commits (R200); ENV is not written (R207). -/
def noiseCommit (g : List F64) (norm : F64) (rx : List F64) (s : State) : State :=
  { invalidate .corrV s with
    noisy := ⟨true, scaledNoise g norm, norm⟩
    sig := { s.sig with rx := rx } }

/-- The noise stage of a signal that is there, from its Gaussian samples `g`: the checks of R205 in
their order, and the commit. -/
def injectNoise (g : List F64) (s : State) : Result :=
  match firstNonFinite g with
  | some k => .failed s (.noiseNonFinite k)
  | none =>
    if feq (energy g) fZero then .failed s .noiseEnergyZero
    else
      let norm := gaussNorm g s
      if finite norm = false then .failed s (.normNonFinite norm)
      else
        let rx := noisyRx g norm s
        match firstNonFinite rx with
        | some k => .failed s (.rxNonFinite k)
        | none => .committed (noiseCommit g norm rx s)

/-- ADD_NOISE (R200): the draws are taken once the sequence check has passed, whether or not the
command then fails (R201). -/
def addNoise (s : State) : Result :=
  if s.sig.valid = false then .failed s (.noSignal 0x05#8 (flagByte s))
  else injectNoise (gaussianSamples s s.sig.nSamp.toNat) (takeDraws s s.sig.nSamp.toNat)

/-- The completion of ADD_NOISE (R200, R272). -/
def execAddNoise (s : State) : Host.Outcome State Fault Refusal := .next (complete (addNoise s))

end Sys2Proof.Machine
end

