-- ==== Sys2Proof/Machine/Correlate.lean ====
section
/-!
DEFINITION. Family 6, matched-filter correlation: CORRELATE (R220 to R222).
-/

namespace Sys2Proof.Machine

open Sys2Proof

/-- The reference waveform of a Gold code (R220): 62 overlapping chip pairs, SPC samples a pair, the
sample index restarting at 0. -/
def reference (s : State) (code : List Bool) : List F64 :=
  (List.range Config.refPairs).flatMap (fun i =>
    (List.range s.spc.toNat).map (fun j =>
      carrierSample s (centred (code.getD i false)) (centred (code.getD (i + 1) false))
        (i * s.spc.toNat + j)))

/-- The correlation of a reference against the received envelope from one index on (R221). -/
def correlateAt (x ref : List F64) (i : Nat) : F64 :=
  fdiv (fsum (List.zipWith fmul (x.drop i) ref)) (f64OfNat ref.length)

/-- The length of a trace of N samples against R: `max(0, N - R + 1)` (R221). -/
def traceLen (n r : Nat) : Nat := n + 1 - r

/-- `trace(X, ref)` (R221). -/
def trace (x ref : List F64) : List F64 :=
  (List.range (traceLen x.length ref.length)).map (correlateAt x ref)

/-- The length of a reference, `62·SPC` (R220). -/
def referenceLen (s : State) : Nat := Config.refPairs * s.spc.toNat

/-- The four references (R222). -/
def references (s : State) : Four (List F64) :=
  Four.ofFn (fun k => reference s (s.gold.codes.get k))

/-- The four traces (R222). -/
def traces (s : State) : Four (List F64) :=
  Four.ofFn (fun k => trace s.sig.rx (reference s (s.gold.codes.get k)))

/-- What CORRELATE commits (R222). -/
def correlateCommit (s : State) : State :=
  { invalidate .decV s with
    corr := ⟨true, references s, traces s, BitVec.ofNat 32 (referenceLen s),
      BitVec.ofNat 32 (traceLen s.sig.nSamp.toNat (referenceLen s))⟩ }

/-- CORRELATE (R222). -/
def correlate (s : State) : Result :=
  if s.sig.valid = false then .failed s (.noSignal 0x06#8 (flagByte s))
  else if referenceLen s > s.maxSamples.toNat then
    .failed s (.samplesRange 0x06#8 (referenceLen s))
  else .committed (correlateCommit s)

/-- The completion of CORRELATE (R222, R272). -/
def execCorrelate (s : State) : Host.Outcome State Fault Refusal := .next (complete (correlate s))

end Sys2Proof.Machine
end

