-- ==== Sys2Proof/Machine/Slicer.lean ====
section
/-!
DEFINITION. Family 7, symbol decision and BER scoring: DECODE (R240 to R247). Quantities that the
source takes on mathematical integers are Int here, and `div` truncates toward zero (R9).
-/

namespace Sys2Proof.Machine

open Sys2Proof

/-- countBitsFilter, `nBits div 63 - 1` of a chip count (R240). -/
def countBitsFilter (nChips : Nat) : Int := (nChips / 63 : Nat) - 1

/-- interval, `62·SPC` (R240). -/
def intervalOf (spc : Nat) : Nat := 62 * spc

/-- startEnd, `(L - interval·(cbf - 1) - 1) div 2` (R240). -/
def startEndOf (l interval : Nat) (cbf : Int) : Int :=
  Int.tdiv ((l : Int) - (interval : Int) * (cbf - 1) - 1) 2

/-- The loop of `segments` (R242), with fuel: from index `idx` and segment number `seg`. -/
def segmentsFrom (l cbf interval startEnd : Nat) : Nat → Nat → Nat → List (Nat × Nat)
  | 0, _, _ => []
  | fuel + 1, idx, seg =>
    if idx < l - 1 then
      let w := if seg = 0 ∨ cbf ≤ seg then startEnd else interval
      let hi := if l - 1 ≤ idx + w then l else idx + w
      (idx, hi) :: segmentsFrom l cbf interval startEnd fuel (idx + w) (seg + 1)
    else []

/-- `segments(L, cbf, interval, startEnd)` (R242), for a positive startEnd. Every turn of the loop
raises the index, but for segments 1 to cbf-1 of an interval 0; so L + cbf turns always end it. -/
def segments (l cbf interval startEnd : Nat) : List (Nat × Nat) :=
  segmentsFrom l cbf interval startEnd (l + cbf) 0 0

/-- The maximum of a trace over [lo, hi), the first maximum kept (R243). DESIGN CHOICE for a trace shorter
than hi, which no run reaches: an index past its end other than lo is left out of the maximum, and at
lo it reads +0.0 (log entry 21). -/
def segmentMax (c : List F64) (lo hi : Nat) : F64 :=
  ((c.drop (lo + 1)).take (hi - (lo + 1))).foldl (fun m x => if fgt x m then x else m)
    (c.getD lo fZero)

/-- One turn of the choice among codes: a tie goes to the later code (R243). -/
def betterCode (m : Four F64) (best : F64 × Fin 4) (k : Fin 4) : F64 × Fin 4 :=
  if fgt (m.get k) best.1 || feq (m.get k) best.1 then (m.get k, k) else best

/-- The decision for one segment (R243): the code of the largest per-segment maximum. -/
def decideSegment (t : Four (List F64)) (lo hi : Nat) : Fin 4 :=
  let m := Four.ofFn (fun k => segmentMax (t.get k) lo hi)
  (([1, 2, 3] : List (Fin 4)).foldl (betterCode m) (m.get 0, 0)).2

/-- The two bits of a decided code: `kd AND 1`, then `kd >> 1` (R244). -/
def symbolBits (k : Fin 4) : List Bool := [k.val % 2 == 1, k.val / 2 == 1]

/-- The decoded bits of the traces under a schedule (R247). -/
def decodedBits (t : Four (List F64)) (segs : List (Nat × Nat)) : List Bool :=
  segs.flatMap (fun p => symbolBits (decideSegment t p.1 p.2))

/-- The count of positions at which the decoded bits differ from BITS, up to the shorter of the two
(R246). -/
def bitErrors (s : State) (d : List Bool) : Nat :=
  (List.range (min d.length s.nBits.toNat)).countP (fun i => d.getD i false != readBit s i)

/-- What DECODE commits (R246, R247). -/
def decodeCommit (s : State) (d : List Bool) (cbf startEnd : Int) : State :=
  { s with
    dec :=
      { valid := true
        dec := d
        nDec := BitVec.ofNat 32 d.length
        berErrs := BitVec.ofNat 32 (bitErrors s d)
        berDen := s.nBits
        ber := fdiv (f64OfNat (bitErrors s d)) (f64OfNat s.nBits.toNat)
        cbf := BitVec.ofInt 32 cbf
        interval := BitVec.ofNat 32 (intervalOf s.spc.toNat)
        startEnd := BitVec.ofInt 32 startEnd } }

/-- cbf of the current chip count (R240). -/
def decodeCbf (s : State) : Int := countBitsFilter s.chip.nChips.toNat

/-- startEnd of the current traces (R240). -/
def decodeStartEnd (s : State) : Int :=
  startEndOf s.corr.corrLen.toNat (intervalOf s.spc.toNat) (decodeCbf s)

/-- The bits DECODE decides from the current traces (R242 to R244). -/
def decodeBits (s : State) : List Bool :=
  decodedBits s.corr.traces
    (segments s.corr.corrLen.toNat (decodeCbf s).toNat (intervalOf s.spc.toNat)
      (decodeStartEnd s).toNat)

/-- DECODE (R247), with the degeneracy checks of R241 in their order. -/
def decodeStage (s : State) : Result :=
  if s.corr.valid = false then .failed s (.noCorr (flagByte s))
  else if decodeCbf s < 1 then .failed s (.cbfLt1 (decodeCbf s))
  else if decodeStartEnd s ≤ 0 then .failed s (.startEndLe0 (decodeStartEnd s))
  else if (decodeBits s).length ≠ 2 * (s.chip.nChips.toNat / 63) then
    .failed s (.lengthMismatch (decodeBits s).length)
  else .committed (decodeCommit s (decodeBits s) (decodeCbf s) (decodeStartEnd s))

/-- The completion of DECODE (R247, R272). -/
def execDecode (s : State) : Host.Outcome State Fault Refusal := .next (complete (decodeStage s))

end Sys2Proof.Machine
end

