-- ==== Sys2Proof/Machine/Sequencer.lean ====
section
/-!
DEFINITION. Family 8, the engine's own commands: NOP and RUN_PIPELINE with its prechecks (R274 to
R276).
-/

namespace Sys2Proof.Machine

open Sys2Proof

/-- The completion of NOP: no effect of its own (R272, R274). -/
def execNop (s : State) : Host.Outcome State Fault Refusal := .next (complete (.committed s))

/-- nC', the chips SPREAD will give (R276). -/
def plannedChips (s : State) : Nat := 63 * (s.nBits.toNat / 2)

/-- N', the samples SYNTH will give (R276). -/
def plannedSamples (s : State) : Nat := sampleCount s.spc.toNat (plannedChips s)

/-- L', the trace length CORRELATE will give (R276). -/
def plannedTraceLen (s : State) : Nat := traceLen (plannedSamples s) (referenceLen s)

/-- The cbf DECODE will compute, `floor(n/2) - 1` (R276). -/
def plannedCbf (s : State) : Int := (s.nBits.toNat / 2 : Nat) - 1

/-- The startEnd DECODE will compute (R276, row 12). -/
def plannedStartEnd (s : State) : Int :=
  Int.tdiv
    ((plannedTraceLen s : Int) - (referenceLen s : Int) * ((s.nBits.toNat / 2 : Nat) - 2) - 1) 2

/-- Rows 1 to 6 of the prechecks (R276). -/
def rateAndBitsError (s : State) : Option CmdError :=
  if s.bps = 0#32 then some .bpsZero
  else if s.spc.toNat < 2 then some (.spcTooSmall s.spc)
  else if finite s.f0 = false then some (.f0NonFinite s.f0)
  else if finite s.phi0 = false then some (.phi0NonFinite s.phi0)
  else if s.nBits = 0#32 then some .emptyBits
  else if s.nBits.toNat > s.maxBits.toNat then some (.nBitsRange s.nBits)
  else none

/-- Rows 9 to 12 of the prechecks (R276). -/
def sizeError (s : State) : Option CmdError :=
  if plannedSamples s > s.maxSamples.toNat then some (.samplesRange 0x04#8 (plannedSamples s))
  else if referenceLen s > s.maxSamples.toNat then some (.samplesRange 0x06#8 (referenceLen s))
  else if plannedCbf s < 1 then some (.cbfLt1 (plannedCbf s))
  else if plannedStartEnd s ≤ 0 then some (.startEndLe0 (plannedStartEnd s))
  else none

/-- The prechecks of RUN_PIPELINE in the order of R276: the first failing one. -/
def precheckError (s : State) : Option CmdError :=
  match rateAndBitsError s with
  | some e => some e
  | none =>
    match shiftRangeError s with
    | some e => some e
    | none =>
      match shiftDupError s with
      | some e => some e
      | none => sizeError s

/-- The noise step of the pipeline, which runs only when CTRL.APPLY_NOISE is 1 (R275). -/
def pipelineNoise (s : State) : Result := if s.ctrl.applyNoise then addNoise s else .committed s

/-- RUN_PIPELINE (R275): the prechecks, then the stages in order, each with its own checks and its own
commit; the first error ends it. -/
def runPipeline (s : State) : Result :=
  match precheckError s with
  | some e => .failed s e
  | none =>
    ((((buildGold s).andThen spread).andThen synth).andThen pipelineNoise).andThen
      correlate |>.andThen decodeStage

/-- The completion of RUN_PIPELINE (R272, R275). -/
def execRunPipeline (s : State) : Host.Outcome State Fault Refusal :=
  .next (complete (runPipeline s))

end Sys2Proof.Machine
end

