-- ==== Sys2Proof/Machine/Dispatch.lean ====
section
/-!
DEFINITION. One arm per instruction, each a direct call of its meaning.
-/

namespace Sys2Proof.Machine

open Sys2Proof

def exec (i : Instr) (s : State) : Host.Outcome State Fault Refusal :=
  match i with
  | .nop => Sys2Proof.Machine.execNop s
  | .genMseqA => Sys2Proof.Machine.execGenMseqA s
  | .genMseqB => Sys2Proof.Machine.execGenMseqB s
  | .buildGold => Sys2Proof.Machine.execBuildGold s
  | .spread => Sys2Proof.Machine.execSpread s
  | .synth => Sys2Proof.Machine.execSynth s
  | .addNoise => Sys2Proof.Machine.execAddNoise s
  | .correlate => Sys2Proof.Machine.execCorrelate s
  | .decode => Sys2Proof.Machine.execDecode s
  | .runPipeline => Sys2Proof.Machine.execRunPipeline s
  | .rd be offset _ => Sys2Proof.Machine.execRd be offset s
  | .wr be offset data => Sys2Proof.Machine.execWr be offset data s

end Sys2Proof.Machine
end

