-- ==== Sys2Proof/Machine/Engine.lean ====
section
/-!
DEFINITION. The two ways a step runs an instruction: the completion of the pending command word
(R272) and a host transaction (R71); and how a record stands ready for the next step.
-/

namespace Sys2Proof.Machine

open Sys2Proof

/-- The error an illegal command word raises at completion (R104, R105). -/
def illegalCommand (why : DecodeError) (w : Word) : CmdError :=
  match why with
  | .badOpcode => .badOpcode w
  | .reservedBits => .reservedBits w

/-- The completion step of a command word (R272): the word is decoded now, and an illegal one fails
with ILLEGAL_COMMAND. -/
def runCommand (w : Word) (s : State) : Host.Outcome State Fault Refusal :=
  match decodeCommand w with
  | .instr i => exec i s
  | .illegal why => .next (complete (.failed s (illegalCommand why w)))

/-- A host transaction (R71, R107). -/
def runTransaction (w : Txn) (s : State) : Host.Outcome State Fault Refusal :=
  exec (decodeTransaction w) s

/-- The completion of whatever is pending; an idle engine does nothing (R272, R317). -/
def runPending (s : State) : Host.Outcome State Fault Refusal :=
  match s.pending with
  | some w => runCommand w s
  | none => .next s

/-- The next event happens (R84). -/
def runEvent (e : Event) (s : State) : Host.Outcome State Fault Refusal :=
  match e with
  | .transaction w => runTransaction w s
  | .completion => runPending s
  | .hardReset noise => .next (hardReset noise s)

/-- Make a record the next thing the block runs: a command word becomes the pending word with its
completion next, a transaction becomes the next event. -/
def placeRecord (e : Encoded) (s : State) : State :=
  match e with
  | .cmd32 w => { s with pending := some w, events := .completion :: s.events }
  | .t49 w => { s with events := .transaction w :: s.events }

end Sys2Proof.Machine
end

