-- ==== Sys2Proof/Machine/Step.lean ====
section
/-!
DEFINITION. One step of the block: the next event of the total order of R84. When the host issues
nothing more, a pending command completes (R272) and an idle block holds its state (R317).
-/

namespace Sys2Proof.Machine

open Sys2Proof

/-- One step. -/
def step (s : State) : Host.Outcome State Fault Refusal :=
  match s.events with
  | [] => runPending s
  | e :: rest => runEvent e { s with events := rest }

/-- The state in which the very next step runs the record with these bits. -/
def State.withFetchWord (s : State) (nbits w : Nat) : State :=
  match tableRecord nbits w with
  | some e => placeRecord e s
  | none => s

end Sys2Proof.Machine
end

