-- ==== Sys2Proof/Safety.lean ====
section
/-!
DEFINITION. The terms in which claims speak of good states: the forms of memory, the chain of valid
flags, buffers that hold what their stage computes from the current configuration, and the
handshake between the error state and the engine.
-/

namespace Sys2Proof.Machine

open Sys2Proof

/-- Every address a RAM lists lies below its capacity. -/
def ramBelow {w : Nat} (m : Ram w) (cap : Nat) : Bool := m.all (fun c => decide (c.1 < cap))

/-- Both RAMs are in canonical form and within their capacities (R51, R52). -/
structure MemoryGood (s : State) : Prop where
  form : s.mem.wf = true
  bitsBelow : ramBelow s.mem.bits s.maxBits.toNat = true
  nrawBelow : ramBelow s.mem.nraw s.maxSamples.toNat = true

/-- A set flag has the flags set whose outputs its own were computed from (R49). -/
structure FlagChain (s : State) : Prop where
  gold : s.gold.valid = true → s.msa.valid = true ∧ s.msb.valid = true
  chip : s.chip.valid = true → s.gold.valid = true
  sig : s.sig.valid = true → s.chip.valid = true
  noisy : s.noisy.valid = true → s.sig.valid = true
  corr : s.corr.valid = true → s.sig.valid = true
  dec : s.dec.valid = true → s.corr.valid = true

/-- A flag that is 0 owns empty buffers and zero registers: no stale value is observable (R49, R80). -/
structure NoStale (s : State) : Prop where
  msa : s.msa.valid = false → s.msa = MseqBank.empty
  msb : s.msb.valid = false → s.msb = MseqBank.empty
  gold : s.gold.valid = false → s.gold = GoldBank.empty
  chip : s.chip.valid = false → s.chip = ChipBank.empty
  sig : s.sig.valid = false → s.sig = SigBank.empty
  noisy : s.noisy.valid = false → s.noisy = NoiseBank.empty
  corr : s.corr.valid = false → s.corr = CorrBank.empty
  dec : s.dec.valid = false → s.dec = DecBank.empty

/-- A flag that is 1 says that its outputs are those of its stage under the current configuration
(R25, R48). RX is ENV, or ENV plus NOISE. -/
structure OutputsCurrent (s : State) : Prop where
  msa : s.msa.valid = true → s.msa.seq = (mseq s.tapsA).1
  msb : s.msb.valid = true → s.msb.seq = (mseq s.tapsB).1
  gold : s.gold.valid = true →
    shiftRangeError s = none ∧ shiftDupError s = none ∧ goldDupError (goldTable s) = none ∧
      s.gold.codes = goldTable s
  chip : s.chip.valid = true →
    0 < s.nBits.toNat ∧ s.nBits.toNat ≤ s.maxBits.toNat ∧ s.chip.chips = spreadChips s ∧
      s.chip.nChips = BitVec.ofNat 32 (63 * (s.nBits.toNat / 2))
  sig : s.sig.valid = true →
    signalConfigError s s.chip.nChips.toNat = none ∧ s.sig.sigI = synthI s ∧
      s.sig.sigQ = synthQ s ∧ s.sig.env = synthEnv s ∧
      s.sig.nSamp = BitVec.ofNat 32 (sampleCount s.spc.toNat s.chip.nChips.toNat)
  clean : s.noisy.valid = false → s.sig.rx = s.sig.env
  noisy : s.noisy.valid = true →
    s.noisy.noise.length = s.sig.env.length ∧ finite s.noisy.norm = true ∧
      s.sig.rx = receivedWith s.sig.env s.noisy.noise ∧ firstNonFinite s.sig.rx = none
  corr : s.corr.valid = true →
    referenceLen s ≤ s.maxSamples.toNat ∧ s.corr.refs = references s ∧
      s.corr.traces = traces s ∧ s.corr.refLen = BitVec.ofNat 32 (referenceLen s) ∧
      s.corr.corrLen = BitVec.ofNat 32 (traceLen s.sig.nSamp.toNat (referenceLen s))
  dec : s.dec.valid = true →
    1 ≤ decodeCbf s ∧ 0 < decodeStartEnd s ∧
      s.dec = (decodeCommit s (decodeBits s) (decodeCbf s) (decodeStartEnd s)).dec

/-- The valid flags tell the truth. -/
structure Coherent (s : State) : Prop where
  chain : FlagChain s
  noStale : NoStale s
  current : OutputsCurrent s

/-- ERR_CODE and ERR_INFO hold an error exactly while ERR is 1 (R27, R303, R306), and a command is in
flight only with ERR and DONE at 0 (R270, R271). -/
structure Handshake (s : State) : Prop where
  cleared : s.status.err = false → s.errCode = 0#24 ∧ s.errInfo = 0#32
  recorded : s.status.err = true → s.errCode.extractLsb' 0 8 ≠ 0#8
  flight : s.pending.isSome = true → s.status.err = false ∧ s.status.done = false

/-- The registers and memories that only the host writes are the same in both states: no command
writes them. -/
structure HostSideKept (s t : State) : Prop where
  ctrl : t.ctrl = s.ctrl
  cmd : t.cmd = s.cmd
  irqEn : t.irqEn = s.irqEn
  werr : t.status.werr = s.status.werr
  aerr : t.status.aerr = s.status.aerr
  tapsA : t.tapsA = s.tapsA
  tapsB : t.tapsB = s.tapsB
  shifts : t.shifts = s.shifts
  nBits : t.nBits = s.nBits
  bps : t.bps = s.bps
  spc : t.spc = s.spc
  f0 : t.f0 = s.f0
  phi0 : t.phi0 = s.phi0
  snrDb : t.snrDb = s.snrDb
  a0 : t.a0 = s.a0
  bufSel : t.bufSel = s.bufSel
  bufIndex : t.bufIndex = s.bufIndex
  maxBits : t.maxBits = s.maxBits
  maxSamples : t.maxSamples = s.maxSamples
  bits : ∀ k, readBit t k = readBit s k
  nraw : ∀ k, readNraw t k = readNraw s k
  mem : t.mem = s.mem
  events : t.events = s.events
  readData : t.readData = s.readData

/-- An instruction of the CMD32 format (R100). -/
def isCommand (i : Instr) : Bool :=
  match i with
  | .nop => true
  | .genMseqA => true
  | .genMseqB => true
  | .buildGold => true
  | .spread => true
  | .synth => true
  | .addNoise => true
  | .correlate => true
  | .decode => true
  | .runPipeline => true
  | .rd _ _ _ => false
  | .wr _ _ _ => false

/-- The state after a command that ended in the error `e` and changed nothing else (R303, R304). -/
def failedWith (e : CmdError) (s : State) : State :=
  { s with
    errCode := errorWord e
    errInfo := errorInfo e
    pending := none
    status := { s.status with done := true, err := true } }

/-- The step is a safe one: it has a next state, neither a fault nor a refusal. -/
def StepGoesOn (s : State) : Prop := ∃ t, step s = .next t

end Sys2Proof.Machine
end

