-- ==== Sys2Proof/Certificates/Slice0/Obligations.lean ====
section
/-!
DEFINITION. The statements for the provers. Each docstring names the rules of spec/ it formalises.
-/

open Sys2Proof Sys2Proof.Machine

/-! ### Encoding -/

/-- R101, R102, R106, R107: decoding the encoding of any instruction, well-formed or not, with any
operand values, gives it back. -/
def Obligations.DecodeInvertsEncode : Prop := ∀ i : Instr, decode (encode i) = .instr i

/-- R101, R102, R107: the bits an instruction is decoded from are its encoding, so no two bit patterns
of a format mean the same instruction. -/
def Obligations.EncodeInvertsDecode : Prop :=
  ∀ (e : Encoded) (i : Instr), decode e = .instr i → encode i = e

/-- R106: the ten legal command words decode to their commands; every other word is refused, with
BAD_OPCODE when its OPC is above 0x08 and RESERVED_BITS otherwise. -/
def Obligations.CommandDecodingIsTotal : Prop :=
  (decodeCommand 0x00000000#32 = .instr .nop ∧ decodeCommand 0x00000001#32 = .instr .genMseqA ∧
    decodeCommand 0x00000101#32 = .instr .genMseqB ∧
    decodeCommand 0x00000002#32 = .instr .buildGold ∧
    decodeCommand 0x00000003#32 = .instr .spread ∧ decodeCommand 0x00000004#32 = .instr .synth ∧
    decodeCommand 0x00000005#32 = .instr .addNoise ∧
    decodeCommand 0x00000006#32 = .instr .correlate ∧
    decodeCommand 0x00000007#32 = .instr .decode ∧
    decodeCommand 0x00000008#32 = .instr .runPipeline) ∧
  (∀ w : Word, 8 < w.toNat % 256 → decodeCommand w = .illegal .badOpcode) ∧
  (∀ w : Word, w.toNat % 256 ≤ 8 → 8 < w.toNat → w ≠ 0x00000101#32 →
    decodeCommand w = .illegal .reservedBits)

/-- R102, R107, with the transaction words of 95_test_vectors.md P1 and P6: a few words and what they
stand for. -/
def Obligations.SampleWordsDecode : Prop :=
  decodeTableWord 32 0x00000001 = some .genMseqA ∧ decodeTableWord 32 0x00000101 = some .genMseqB ∧
  decodeTableWord 32 0x00000008 = some .runPipeline ∧ decodeTableWord 32 0x00000102 = none ∧
  decodeTableWord 56 0x1E01000000000 = some (.rd 0xF#4 0x010#12 0#32) ∧
  decodeTableWord 56 0x1F02000000020 = some (.wr 0xF#4 0x020#12 0x20#32)

/-! ### Steps -/

/-- R272: when the pending word decodes to a command and its completion is next (or no event is left),
the step is that command's meaning at the state without that event. The list of events is the model's own
(log entry 1). -/
def Obligations.StepRunsThePendingCommand : Prop :=
  ∀ (s : State) (w : Word) (i : Instr), s.pending = some w → decodeCommand w = .instr i →
    (s.events = [] → step s = exec i s) ∧
    ∀ rest, s.events = .completion :: rest → step s = exec i { s with events := rest }

/-- R71, R107: when a host transaction is next, the step is the meaning of the transaction its record
decodes to, at the state without that event. The list of events is the model's own (log entry 1). -/
def Obligations.StepRunsTheTransaction : Prop :=
  ∀ (s : State) (w : Txn) (rest : List Event), s.events = .transaction w :: rest →
    step s = exec (decodeTransaction w) { s with events := rest }

/-- R105, and R104 for the other illegal words: a pending word that decodes to no command completes
with ILLEGAL_COMMAND, stage OPC, detail 1 or 2 and the word as ERR_INFO, and changes no state but the
error state, DONE and pending. -/
def Obligations.IllegalWordsFailAtCompletion : Prop :=
  ∀ (s : State) (w : Word) (rest : List Event), s.pending = some w → s.events = .completion :: rest →
    8 < w.toNat → w ≠ 0x00000101#32 →
    step s = .next
      { s with
        events := rest
        errCode := (if 8 < w.toNat % 256 then 0x01#8 else 0x02#8) ++ w.extractLsb' 0 8 ++ 0x05#8
        errInfo := w
        pending := none
        status := { s.status with done := true, err := true } }

/-- R317: an idle block with no event to come holds its state. The list of events is the model's own
(log entry 1). -/
def Obligations.IdleBlockHoldsItsState : Prop :=
  ∀ s : State, s.pending = none → s.events = [] → step s = .next s

/-- 93 §1 (no item is stuck), R272: every step of every state has a next state. -/
def Obligations.NoStepStops : Prop := ∀ s : State, StepGoesOn s

/-- R55, R340, R341, R280: a hard reset, and a CTRL write with bit 0 set whether or not a command is in
flight, put every piece of state at its reset value; noise_state comes with the hard reset and is left
as it was by the soft one, and the interrupt line is low. The capacities are constants. That the
hard reset's event brings noise_state, and that the events and the host's last read outlive a reset, are the
model's choices (log entries 1, 6 and 7). -/
def Obligations.ResetsGiveTheResetValues : Prop :=
  ∀ (s : State) (n : Nat) (rest : List Event) (d : Word),
    let after := fun (noise : Nat) (events : List Event) =>
      ({ ctrl := ⟨false, false⟩, cmd := 0#32, status := ⟨false, false, false, false⟩,
         irqEn := ⟨false, false⟩, errCode := 0#24, errInfo := 0#32, tapsA := 0x21#6,
         tapsB := 0x33#6, shifts := 0x1E140A00#32, lfsr := 0x02#6, nBits := 0#32, bps := 0#32,
         spc := 0#32, f0 := 0#64, phi0 := 0#64, snrDb := 0#64, a0 := 0#64, bufSel := 0#5,
         bufIndex := 0#32, maxBits := s.maxBits, maxSamples := s.maxSamples,
         msa := ⟨false, []⟩, msb := ⟨false, []⟩, gold := ⟨false, ⟨[], [], [], []⟩⟩,
         chip := ⟨false, [], 0#32⟩, sig := ⟨false, [], [], [], [], 0#32⟩,
         noisy := ⟨false, [], 0#64⟩,
         corr := ⟨false, ⟨[], [], [], []⟩, ⟨[], [], [], []⟩, 0#32, 0#32⟩,
         dec := ⟨false, [], 0#32, 0#32, 0#32, 0#64, 0#32, 0#32, 0#32⟩, mem := ⟨[], []⟩,
         pending := none, noiseState := noise, events := events, readData := s.readData } : State)
    (s.events = .hardReset n :: rest → step s = .next (after n rest)) ∧
    (d.getLsbD 0 = true → exec (.wr 0xF#4 0x008#12 d) s = .next (after s.noiseState s.events)) ∧
    irq (after n rest) = false ∧ busy (after n rest) = false ∧
    (∀ k, readBit (after n rest) k = false) ∧ (∀ k, readNraw (after n rest) k = 0#64)

/-- R55 and R7, with the model's choices of log entries 1, 3, 6 and 7: the state the model starts from
reads ID, VERSION, the reference constants and the reference capacities. -/
def Obligations.StartStateReads : Prop :=
  readReg State.reset .id = some 0x474F4C44#32 ∧ readReg State.reset .version = some 1#32 ∧
  readReg State.reset .tapsA = some 0x21#32 ∧ readReg State.reset .tapsB = some 0x33#32 ∧
  readReg State.reset .shifts = some 0x1E140A00#32 ∧
  readReg State.reset .lfsrState = some 0x02#32 ∧ readReg State.reset .status = some 0#32 ∧
  readReg State.reset .errCode = some 0#32 ∧ readReg State.reset .maxBits = some 4096#32 ∧
  readReg State.reset .maxSamples = some 1048576#32 ∧
  (step State.reset = .next State.reset)

/-! ### M-sequences -/

/-- R131: one generation step puts out the old register[5], shifts the register up by one and feeds
the parity of the tapped bits of the old register into register[0]. -/
def Obligations.LfsrStepShiftsAndFeedsBack : Prop :=
  ∀ taps r : Stages,
    (lfsrStep taps r).1 = r.getLsbD 5 ∧
    (lfsrStep taps r).2.getLsbD 0 =
      (xor (xor (xor (xor (xor (taps.getLsbD 0 && r.getLsbD 0) (taps.getLsbD 1 && r.getLsbD 1))
        (taps.getLsbD 2 && r.getLsbD 2)) (taps.getLsbD 3 && r.getLsbD 3))
        (taps.getLsbD 4 && r.getLsbD 4)) (taps.getLsbD 5 && r.getLsbD 5)) ∧
    ∀ j, j < 5 → (lfsrStep taps r).2.getLsbD (j + 1) = r.getLsbD j

/-- R132: GEN_MSEQ always completes. It leaves in MSEQ_A or MSEQ_B the 63 outputs of the shift register
run from the seed with the selected taps, in LFSR_STATE the register after them, sets its own flag,
clears GOLD_V and every later flag with what they own, and changes nothing else. -/
def Obligations.GenMseqRunsTheRegister : Prop :=
  ∀ s : State,
    let reg := fun (taps : Stages) (n : Nat) => (fun r : Stages => (lfsrStep taps r).2)^[n] 0x02#6
    let seq := fun (taps : Stages) => (List.range 63).map (fun n => (reg taps n).getLsbD 5)
    exec .genMseqA s = .next
      { s with
        msa := ⟨true, seq s.tapsA⟩, lfsr := reg s.tapsA 63
        gold := GoldBank.empty, chip := ChipBank.empty, sig := SigBank.empty
        noisy := NoiseBank.empty, corr := CorrBank.empty, dec := DecBank.empty
        pending := none, status := { s.status with done := true } } ∧
    exec .genMseqB s = .next
      { s with
        msb := ⟨true, seq s.tapsB⟩, lfsr := reg s.tapsB 63
        gold := GoldBank.empty, chip := ChipBank.empty, sig := SigBank.empty
        noisy := NoiseBank.empty, corr := CorrBank.empty, dec := DecBank.empty
        pending := none, status := { s.status with done := true } }

/-- R134: for every tap value the first six outputs are 0,0,0,0,1,0, which are the seed's stages read from
register[5] down, and every later output is the XOR of the tapped ones among the six before it. -/
def Obligations.OutputsObeyTheRecurrence : Prop :=
  ∀ taps : Stages,
    let out := fun n => (mseq taps).1.getD n false
    (mseq taps).1.length = 63 ∧
    out 0 = false ∧ out 1 = false ∧ out 2 = false ∧ out 3 = false ∧ out 4 = true ∧
    out 5 = false ∧
    ∀ n, n + 6 < 63 →
      out (n + 6) =
        (xor (xor (xor (xor (xor (taps.getLsbD 0 && out (n + 5)) (taps.getLsbD 1 && out (n + 4)))
          (taps.getLsbD 2 && out (n + 3))) (taps.getLsbD 3 && out (n + 2)))
          (taps.getLsbD 4 && out (n + 1))) (taps.getLsbD 5 && out n))

/-- R134 (the spec's own derivation): of the 64 tap values exactly six bring the register back to the seed
after 63 steps and not before. -/
def Obligations.SixMaximalTapValues : Prop :=
  ∀ taps : Stages,
    let reg := fun (n : Nat) => (fun r : Stages => (lfsrStep taps r).2)^[n] 0x02#6
    (reg 63 = 0x02#6 ∧ ∀ n, 0 < n → n < 63 → reg n ≠ 0x02#6) ↔
      taps ∈ [0x21#6, 0x2D#6, 0x30#6, 0x33#6, 0x36#6, 0x39#6]

/-- R133 (V1, V2): the two reference M-sequences, with bit i of the packed value element i, and the
register after each. -/
def Obligations.ReferenceSequences : Prop :=
  let pack := fun (l : List Bool) => l.foldr (fun b acc => b.toNat + 2 * acc) 0
  pack (mseq 0x21#6).1 = 0x629E8E4B766AFC10 ∧ (mseq 0x21#6).2 = 0x02#6 ∧
  pack (mseq 0x33#6).1 = 0x45BF5C6760F254D0 ∧ (mseq 0x33#6).2 = 0x02#6

/-! ### Gold codes -/

/-- R152, R151: with four distinct shifts below 63 and four distinct codes, BUILD_GOLD completes. Chip i
of code k is A[i] XOR B[(i - s_k) mod 63]; both M-sequences and their flags are set too, LFSR_STATE is
B's register, CHIP_V and every later flag is cleared with what it owns, and nothing else changes. -/
def Obligations.BuildGoldCommitsTheTable : Prop :=
  ∀ s : State,
    let a := (mseq s.tapsA).1
    let b := (mseq s.tapsB).1
    let shift := fun k : Fin 4 => (s.shifts.toNat >>> (8 * k.val)) % 256
    let code := fun k : Fin 4 => (List.range 63).map
      (fun i => xor (a.getD i false) (b.getD ((i + 63 - shift k) % 63) false))
    (∀ k, shift k < 63) → (∀ j k, j < k → shift j ≠ shift k) → (∀ j k, j < k → code j ≠ code k) →
    exec .buildGold s = .next
      { s with
        msa := ⟨true, a⟩, msb := ⟨true, b⟩, gold := ⟨true, ⟨code 0, code 1, code 2, code 3⟩⟩
        lfsr := (mseq s.tapsB).2
        chip := ChipBank.empty, sig := SigBank.empty, noisy := NoiseBank.empty
        corr := CorrBank.empty, dec := DecBank.empty
        pending := none, status := { s.status with done := true } }

/-- R152: BUILD_GOLD fails with SHIFT_RANGE at the first shift of 63 or more, else with SHIFT_DUP at the
first pair of equal shifts, else with GOLD_NOT_DISTINCT at the first pair of equal codes; on an error
nothing but the error state (with DONE and pending) changes. -/
def Obligations.BuildGoldRefusesBadTables : Prop :=
  ∀ s : State,
    let a := (mseq s.tapsA).1
    let b := (mseq s.tapsB).1
    let shift := fun k : Fin 4 => (s.shifts.toNat >>> (8 * k.val)) % 256
    let code := fun k : Fin 4 => (List.range 63).map
      (fun i => xor (a.getD i false) (b.getD ((i + 63 - shift k) % 63) false))
    let before := fun (p q : Fin 4 × Fin 4) => p.1 < p.2 ∧ (p.1 < q.1 ∨ (p.1 = q.1 ∧ p.2 < q.2))
    let failed := fun (errCode : BitVec 24) (errInfo : Nat) =>
      (.next { s with
        errCode := errCode, errInfo := BitVec.ofNat 32 errInfo, pending := none
        status := { s.status with done := true, err := true } } : Host.Outcome State Fault Refusal)
    (∀ k, 63 ≤ shift k → (∀ j, j < k → shift j < 63) →
      exec .buildGold s = failed 0x050201#24 (k.val * 256 + shift k)) ∧
    ((∀ k, shift k < 63) →
      (∀ j k, j < k → shift j = shift k →
        (∀ p : Fin 4 × Fin 4, before p (j, k) → shift p.1 ≠ shift p.2) →
        exec .buildGold s = failed 0x060201#24 (j.val * 256 + k.val)) ∧
      ((∀ j k, j < k → shift j ≠ shift k) →
        ∀ j k, j < k → code j = code k →
          (∀ p : Fin 4 × Fin 4, before p (j, k) → code p.1 ≠ code p.2) →
          exec .buildGold s = failed 0x070201#24 (j.val * 256 + k.val)))

/-- R153, R343 (V10): right after reset BUILD_GOLD gives the reference table. -/
def Obligations.ReferenceGoldTable : Prop :=
  let pack := fun (l : List Bool) => l.foldr (fun b acc => b.toNat + 2 * acc) 0
  buildGold State.reset = .committed (goldCommit State.reset) ∧
  pack (goldCommit State.reset).gold.codes.k0 = 0x2721D22C1698A8C0 ∧
  pack (goldCommit State.reset).gold.codes.k1 = 0x1FEF13C8BF39BE3D ∧
  pack (goldCommit State.reset).gold.codes.k2 = 0x24E8816E3B624BFB ∧
  pack (goldCommit State.reset).gold.codes.k3 = 0x3AA21B7F54B55223 ∧
  (goldCommit State.reset).lfsr = 0x02#6

/-! ### Spreading -/

/-- R170, R171, R172: with a table and a legal bit count, SPREAD completes. Symbol k of the input spreads
into the code of index b0 + 2·b1; an odd last bit is dropped; N_CHIPS is 63·floor(n/2); SIG_V and every
later flag is cleared with what it owns, and nothing else changes. -/
def Obligations.SpreadLaysOutTheCodes : Prop :=
  ∀ s : State, s.gold.valid = true → 1 ≤ s.nBits.toNat → s.nBits.toNat ≤ s.maxBits.toNat →
    ∃ chips : List Bool,
      exec .spread s = .next
        { s with
          chip := ⟨true, chips, BitVec.ofNat 32 (63 * (s.nBits.toNat / 2))⟩
          sig := SigBank.empty, noisy := NoiseBank.empty, corr := CorrBank.empty
          dec := DecBank.empty, pending := none, status := { s.status with done := true } } ∧
      ((∀ k, (s.gold.codes.get k).length = 63) →
        chips.length = 63 * (s.nBits.toNat / 2) ∧
        ∀ k i, k < s.nBits.toNat / 2 → i < 63 →
          let index : Fin 4 :=
            if readBit s (2 * k) then (if readBit s (2 * k + 1) then 3 else 1)
            else (if readBit s (2 * k + 1) then 2 else 0)
          chips[63 * k + i]? = (s.gold.codes.get index)[i]?)

/-- R170: SPREAD fails with NO_GOLD without a table, else with EMPTY_BITS, else with N_BITS_RANGE; nothing
but the error state (with DONE and pending) changes. -/
def Obligations.SpreadRefusesBadInput : Prop :=
  ∀ s : State,
    let failed := fun (errCode : BitVec 24) (errInfo : Word) =>
      (.next { s with
        errCode := errCode, errInfo := errInfo, pending := none
        status := { s.status with done := true, err := true } } : Host.Outcome State Fault Refusal)
    (s.gold.valid = false → exec .spread s = failed 0x010304#24 ((flagByte s).setWidth 32)) ∧
    (s.gold.valid = true → s.nBits = 0#32 → exec .spread s = failed 0x030301#24 0#32) ∧
    (s.gold.valid = true → s.nBits ≠ 0#32 → s.maxBits.toNat < s.nBits.toNat →
      exec .spread s = failed 0x040301#24 s.nBits)

/-! ### Synthesis -/

/-- R180, R181, R183: with chips and legal signal parameters, SYNTH completes. Sample p·2·SPC + j of SIG_I
and SIG_Q is the centred first and second chip of pair p, that of ENV the carrier of the two at that
index; RX is a copy of ENV; N_SAMP is 2·SPC·floor(N_CHIPS/2); RX_NOISY and every later flag is cleared
with what it owns, and nothing else changes. -/
def Obligations.SynthModulatesTheChips : Prop :=
  ∀ s : State, s.chip.valid = true → s.bps ≠ 0#32 → 2 ≤ s.spc.toNat → finite s.f0 = true →
    finite s.phi0 = true →
    2 * s.spc.toNat * (s.chip.nChips.toNat / 2) ≤ s.maxSamples.toNat →
    ∃ sigI sigQ env : List F64,
      exec .synth s = .next
        { s with
          sig := ⟨true, sigI, sigQ, env, env,
            BitVec.ofNat 32 (2 * s.spc.toNat * (s.chip.nChips.toNat / 2))⟩
          noisy := NoiseBank.empty, corr := CorrBank.empty, dec := DecBank.empty
          pending := none, status := { s.status with done := true } } ∧
      sigI.length = 2 * s.spc.toNat * (s.chip.nChips.toNat / 2) ∧
      sigQ.length = sigI.length ∧ env.length = sigI.length ∧
      ∀ p j, p < s.chip.nChips.toNat / 2 → j < 2 * s.spc.toNat →
        let idx := p * (2 * s.spc.toNat) + j
        let i := fsub (f64OfNat (s.chip.chips.getD (2 * p) false).toNat) fHalf
        let q := fsub (f64OfNat (s.chip.chips.getD (2 * p + 1) false).toNat) fHalf
        let dt := fdiv fOne (f64OfNat (s.spc.toNat * s.bps.toNat))
        let th := fmul (fmul twoPi s.f0) (fmul (f64OfNat idx) dt)
        sigI[idx]? = some i ∧ sigQ[idx]? = some q ∧
        env[idx]? = some (fsub (fmul i (cosOf th)) (fmul q (sinOf (fadd th s.phi0))))

/-- R180, R184: SYNTH fails with NO_CHIPS without chips, else at the first failing row of the table of
R184; nothing but the error state (with DONE and pending) changes. -/
def Obligations.SynthRefusesBadParameters : Prop :=
  ∀ s : State,
    let samples := 2 * s.spc.toNat * (s.chip.nChips.toNat / 2)
    let rows : List (Bool × BitVec 24 × Word) :=
      [(!s.chip.valid, 0x020404#24, (flagByte s).setWidth 32),
       (s.bps == 0#32, 0x010401#24, 0#32),
       (decide (s.spc.toNat < 2), 0x020401#24, s.spc),
       (!finite s.f0, 0x090401#24, s.f0.extractLsb' 32 32),
       (!finite s.phi0, 0x0A0401#24, s.phi0.extractLsb' 32 32),
       (decide (s.maxSamples.toNat < samples), 0x080401#24,
         BitVec.ofNat 32 (min samples 0xFFFFFFFF))]
    ∀ row, rows.find? (fun r => r.1) = some row →
      exec .synth s = .next
        { s with
          errCode := row.2.1, errInfo := row.2.2, pending := none
          status := { s.status with done := true, err := true } }

/-! ### Noise -/

/-- R200, R201, R202, R203, R204: ADD_NOISE with a signal, finite Gaussian samples g, a nonzero noise
energy, a finite norm and a finite result completes. g is NRAW[0..N-1] or the means of twelve draws
each; norm is sqrt((EXP10(-snrDb/10)·Σenv²)/Σg²); NOISE is g·norm and RX is ENV plus NOISE, sample by
sample; 12·N draws are taken from UNIFORM and none with NOISE_SRC = 1; CORR_V and DEC_V are cleared with
what they own, and nothing else changes. The premise on ENV's length is part of Coherent, which is
stated on its own. -/
def Obligations.AddNoiseScalesAndAdds : Prop :=
  ∀ s : State, s.sig.valid = true → s.sig.env.length = s.sig.nSamp.toNat →
    let n := s.sig.nSamp.toNat
    let g := (List.range n).map (fun k =>
      if s.ctrl.noiseSrc then readNraw s k
      else fdiv (((List.range 12).map (fun d => uniformDraw (s.noiseState + 12 * k + d))).foldl
        fadd 0#64) fTwelve)
    let es := (s.sig.env.map (fun x => fmul x x)).foldl fadd 0#64
    let en := (g.map (fun x => fmul x x)).foldl fadd 0#64
    let norm := fsqrt (fdiv (fmul (exp10Of (fdiv (fneg s.snrDb) fTen)) es) en)
    let noise := g.map (fun x => fmul x norm)
    let rx := List.zipWith fadd s.sig.env noise
    (∀ x ∈ g, finite x = true) → feq en 0#64 = false → finite norm = true →
    (∀ x ∈ rx, finite x = true) →
    exec .addNoise s = .next
      { s with
        noisy := ⟨true, noise, norm⟩, sig := { s.sig with rx := rx }
        corr := CorrBank.empty, dec := DecBank.empty
        noiseState := if s.ctrl.noiseSrc then s.noiseState else s.noiseState + 12 * n
        pending := none, status := { s.status with done := true } }

/-- R205, R201: ADD_NOISE fails with NO_SIGNAL without a signal; else at the first sample of g that is not
finite, else on zero noise energy, else on a norm that is not finite. Nothing is committed; the draws are
taken once the signal is there. The fourth row of R205, RX_NONFINITE, is left out: no state that reaches it
is known, since a finite norm bounds every scaled sample. -/
def Obligations.AddNoiseRefusesBadNumbers : Prop :=
  ∀ s : State,
    let n := s.sig.nSamp.toNat
    let g := gaussianSamples s n
    let norm := gaussNorm g s
    let failed := fun (noiseState : Nat) (errCode : BitVec 24) (errInfo : Word) =>
      (.next { s with
        noiseState := noiseState
        errCode := errCode, errInfo := errInfo, pending := none
        status := { s.status with done := true, err := true } } : Host.Outcome State Fault Refusal)
    let drawn := if s.ctrl.noiseSrc then s.noiseState else s.noiseState + 12 * n
    (s.sig.valid = false →
      exec .addNoise s = failed s.noiseState 0x030504#24 ((flagByte s).setWidth 32)) ∧
    (s.sig.valid = true →
      (∀ k x, g[k]? = some x → finite x = false →
        (∀ j y, j < k → g[j]? = some y → finite y = true) →
        exec .addNoise s = failed drawn 0x030503#24 (BitVec.ofNat 32 k)) ∧
      ((∀ x ∈ g, finite x = true) →
        (feq (energy g) 0#64 = true → exec .addNoise s = failed drawn 0x010503#24 0#32) ∧
        (feq (energy g) 0#64 = false → finite norm = false →
          exec .addNoise s = failed drawn 0x020503#24 (norm.extractLsb' 32 32))))

/-- R201: every UNIFORM draw is a number from -1.0 to 1.0. That the model imposes the range on the open
stream is its choice (log entry 6). -/
def Obligations.UniformDrawsStayInRange : Prop :=
  ∀ place : Nat, fIsNaN (uniformDraw place) = false ∧ fgt (uniformDraw place) fOne = false ∧
    fgt (fneg fOne) (uniformDraw place) = false

/-- R202: with NOISE_SRC = 1 no instruction's outcome depends on the noise source's state, and none
changes it: from two states that differ only there, the next states differ only there. -/
def Obligations.NrawPathIgnoresTheNoiseSource : Prop :=
  ∀ (i : Instr) (s t : State) (n : Nat), s.ctrl.noiseSrc = true → exec i s = .next t →
    t.noiseState = s.noiseState ∧
    exec i { s with noiseState := n } = .next { t with noiseState := n }

/-- R207, R200 (corners; V39): with NOISE_SRC = 1, running ADD_NOISE again after it succeeded gives the same
NOISE, NORM and RX, since it starts from ENV and not from the old RX. -/
def Obligations.AddNoiseIsRepeatable : Prop :=
  ∀ s t u : State, s.ctrl.noiseSrc = true → s.sig.valid = true → s.status.err = false →
    exec .addNoise s = .next t → t.status.err = false → exec .addNoise t = .next u →
    u.noisy = t.noisy ∧ u.sig = t.sig ∧ u.status.err = false

/-! ### Correlation -/

/-- R220, R221, R222: with a signal and references that fit, CORRELATE completes. Sample i·SPC + j of
reference k is the carrier of chips i and i+1 of code k at that index; element i of trace k is the sum of
RX[i+j]·ref[j], from j = 0 up, over the reference's length; REF_LEN is 62·SPC and CORR_LEN
max(0, N - R + 1); DEC_V is cleared with what it owns, and nothing else changes. The premise on RX's length
is part of Coherent. -/
def Obligations.CorrelateMatchesTheReferences : Prop :=
  ∀ s : State, s.sig.valid = true → s.sig.rx.length = s.sig.nSamp.toNat →
    62 * s.spc.toNat ≤ s.maxSamples.toNat →
    ∃ refs traces : Four (List F64),
      exec .correlate s = .next
        { s with
          corr := ⟨true, refs, traces, BitVec.ofNat 32 (62 * s.spc.toNat),
            BitVec.ofNat 32 (s.sig.nSamp.toNat + 1 - 62 * s.spc.toNat)⟩
          dec := DecBank.empty, pending := none, status := { s.status with done := true } } ∧
      ∀ k : Fin 4,
        (refs.get k).length = 62 * s.spc.toNat ∧
        (traces.get k).length = s.sig.nSamp.toNat + 1 - 62 * s.spc.toNat ∧
        (∀ i j, i < 62 → j < s.spc.toNat →
          let m := i * s.spc.toNat + j
          let a := fsub (f64OfNat ((s.gold.codes.get k).getD i false).toNat) fHalf
          let b := fsub (f64OfNat ((s.gold.codes.get k).getD (i + 1) false).toNat) fHalf
          let dt := fdiv fOne (f64OfNat (s.spc.toNat * s.bps.toNat))
          let th := fmul (fmul twoPi s.f0) (fmul (f64OfNat m) dt)
          (refs.get k)[m]? =
            some (fsub (fmul a (cosOf th)) (fmul b (sinOf (fadd th s.phi0))))) ∧
        (∀ i, i < s.sig.nSamp.toNat + 1 - 62 * s.spc.toNat →
          (traces.get k)[i]? =
            some (fdiv
              (((List.range (62 * s.spc.toNat)).map
                (fun j => fmul (s.sig.rx.getD (i + j) 0#64) ((refs.get k).getD j 0#64))).foldl
                fadd 0#64)
              (f64OfNat (62 * s.spc.toNat))))

/-- R222: CORRELATE fails with NO_SIGNAL without a signal, else with SAMPLES_RANGE when 62·SPC exceeds
MAX_SAMPLES; nothing but the error state (with DONE and pending) changes. -/
def Obligations.CorrelateRefusesBadInput : Prop :=
  ∀ s : State,
    let failed := fun (errCode : BitVec 24) (errInfo : Word) =>
      (.next { s with
        errCode := errCode, errInfo := errInfo, pending := none
        status := { s.status with done := true, err := true } } : Host.Outcome State Fault Refusal)
    (s.sig.valid = false → exec .correlate s = failed 0x030604#24 ((flagByte s).setWidth 32)) ∧
    (s.sig.valid = true → s.maxSamples.toNat < 62 * s.spc.toNat →
      exec .correlate s =
        failed 0x080601#24 (BitVec.ofNat 32 (min (62 * s.spc.toNat) 0xFFFFFFFF)))

/-! ### Decoding -/

/-- R242: for a trace of two samples or more and positive widths, the schedule starts at 0, ends at L, and
consecutive segments are adjacent and none is empty, so that every index lies in exactly one. -/
def Obligations.SegmentsTileTheTrace : Prop :=
  ∀ l cbf interval startEnd : Nat, 2 ≤ l → 0 < interval → 0 < startEnd →
    let segs := segments l cbf interval startEnd
    segs.head?.map (fun p => p.1) = some 0 ∧ segs.getLast?.map (fun p => p.2) = some l ∧
    (∀ p ∈ segs, p.1 < p.2) ∧
    (∀ m p q, segs[m]? = some p → segs[m + 1]? = some q →
      p.2 = q.1 ∧ p.2 - p.1 = if m = 0 ∨ cbf ≤ m then startEnd else interval) ∧
    ∀ x, x < l → ∃ p ∈ segs, (p.1 ≤ x ∧ x < p.2) ∧ ∀ q ∈ segs, q.1 ≤ x ∧ x < q.2 → q = p

/-- R242 (derived), R240: for n symbols, two or more, and SPC two or more, the schedule of the trace that
SYNTH and CORRELATE give has exactly n segments. -/
def Obligations.OneSegmentPerSymbol : Prop :=
  ∀ n spc : Nat, 2 ≤ n → 2 ≤ spc →
    let l := 2 * spc * (63 * n / 2) + 1 - 62 * spc
    let startEnd := startEndOf l (62 * spc) ((n : Int) - 1)
    0 < startEnd ∧ (segments l (n - 1) (62 * spc) startEnd.toNat).length = n

/-- R243: over traces without NaN, the decided code has a sample in the segment that no sample of any code
exceeds, and one that exceeds every sample of each later code: a tie goes to the later code. -/
def Obligations.DecisionTakesTheLargestMaximum : Prop :=
  ∀ (t : Four (List F64)) (lo hi : Nat), lo < hi →
    (∀ k : Fin 4, hi ≤ (t.get k).length) →
    (∀ (k : Fin 4) (x : F64), x ∈ t.get k → fIsNaN x = false) →
    let d := decideSegment t lo hi
    ∃ b x, lo ≤ b ∧ b < hi ∧ (t.get d)[b]? = some x ∧
      ∀ (k : Fin 4) (c : Nat) (y : F64), lo ≤ c → c < hi → (t.get k)[c]? = some y →
        fgt y x = false ∧ (d < k → fgt x y = true)

/-- R247, R244, R246: with traces, cbf of at least 1, a positive startEnd and as many segments as symbols,
DECODE completes. Each segment's code kd appends kd AND 1 and kd >> 1; the errors are counted against BITS
up to the shorter length, over N_BITS; nothing but DEC_V's bank changes. -/
def Obligations.DecodeCommitsTheDecision : Prop :=
  ∀ s : State,
    let symbols := s.chip.nChips.toNat / 63
    let cbf : Int := (symbols : Int) - 1
    let startEnd := Int.tdiv
      ((s.corr.corrLen.toNat : Int) - (62 * s.spc.toNat : Nat) * (cbf - 1) - 1) 2
    let segs := segments s.corr.corrLen.toNat (symbols - 1) (62 * s.spc.toNat) startEnd.toNat
    s.corr.valid = true → 2 ≤ symbols → 0 < startEnd → segs.length = symbols →
    ∃ bits : List Bool,
      exec .decode s = .next
        { s with
          dec :=
            { valid := true, dec := bits, nDec := BitVec.ofNat 32 (2 * symbols)
              berErrs := BitVec.ofNat 32 (bitErrors s bits), berDen := s.nBits
              ber := fdiv (f64OfNat (bitErrors s bits)) (f64OfNat s.nBits.toNat)
              cbf := BitVec.ofInt 32 cbf, interval := BitVec.ofNat 32 (62 * s.spc.toNat)
              startEnd := BitVec.ofInt 32 startEnd }
          pending := none, status := { s.status with done := true } } ∧
      bits.length = 2 * symbols ∧
      (∀ m lo hi, segs[m]? = some (lo, hi) →
        let kd := decideSegment s.corr.traces lo hi
        bits[2 * m]? = some (kd.val.testBit 0) ∧ bits[2 * m + 1]? = some (kd.val.testBit 1)) ∧
      bitErrors s bits =
        ((List.range (min (2 * symbols) s.nBits.toNat)).filter
          (fun i => bits.getD i false ≠ readBit s i)).length

/-- R241, R247: DECODE fails with NO_CORR without traces, else on cbf below 1, else on startEnd not positive,
else on a decoded length that is not two bits a symbol; nothing but the error state (with DONE and pending)
changes. -/
def Obligations.DecodeRefusesDegenerateInput : Prop :=
  ∀ s : State,
    let symbols := s.chip.nChips.toNat / 63
    let cbf : Int := (symbols : Int) - 1
    let startEnd := Int.tdiv
      ((s.corr.corrLen.toNat : Int) - (62 * s.spc.toNat : Nat) * (cbf - 1) - 1) 2
    let segs := segments s.corr.corrLen.toNat (symbols - 1) (62 * s.spc.toNat) startEnd.toNat
    let failed := fun (errCode : BitVec 24) (errInfo : Word) =>
      (.next { s with
        errCode := errCode, errInfo := errInfo, pending := none
        status := { s.status with done := true, err := true } } : Host.Outcome State Fault Refusal)
    (s.corr.valid = false → exec .decode s = failed 0x040704#24 ((flagByte s).setWidth 32)) ∧
    (s.corr.valid = true →
      (symbols < 2 → exec .decode s = failed 0x010702#24 (BitVec.ofInt 32 cbf)) ∧
      (2 ≤ symbols →
        (startEnd ≤ 0 → exec .decode s = failed 0x020702#24 (BitVec.ofInt 32 startEnd)) ∧
        (0 < startEnd → segs.length ≠ symbols →
          exec .decode s = failed 0x030702#24 (BitVec.ofNat 32 (2 * segs.length)))))

/-- R241 (derived), R245: in a coherent state with traces of two symbols or more, DECODE never fails: the
guards on startEnd and on the decoded length cannot fire. The last premise says that N_CHIPS did not
outgrow its 32 bits. -/
def Obligations.DecodeNeverDegenerate : Prop :=
  ∀ s : State, Coherent s → s.corr.valid = true → 4 ≤ s.nBits.toNat →
    63 * (s.nBits.toNat / 2) < 2 ^ 32 →
    ∃ t, exec .decode s = .next t ∧ t.dec.valid = true ∧ t.status.err = s.status.err ∧
      t.dec.dec.length = 2 * (s.nBits.toNat / 2)

/-! ### The engine's own commands -/

/-- R274: the word 0x00000000 is NOP, which completes with no effect but the completion's own. -/
def Obligations.NopOnlyCompletes : Prop :=
  decodeCommand 0x00000000#32 = .instr .nop ∧
  ∀ s : State, exec .nop s = .next
    { s with pending := none, status := { s.status with done := true } }

/-- R276: RUN_PIPELINE fails at the first failing row of its prechecks, and then nothing but the error state
(with DONE and pending) changes. -/
def Obligations.PrechecksFailFirst : Prop :=
  ∀ s : State,
    let n := s.nBits.toNat
    let spc := s.spc.toNat
    let samples := 2 * spc * (63 * (n / 2) / 2)
    let refLen := 62 * spc
    let l := samples + 1 - refLen
    let cbf : Int := (n / 2 : Nat) - 1
    let startEnd := Int.tdiv ((l : Int) - (refLen : Int) * ((n / 2 : Nat) - 2) - 1) 2
    let shift := fun k : Nat => (s.shifts.toNat >>> (8 * k)) % 256
    let range := fun k : Nat =>
      (decide (63 ≤ shift k), 0x050201#24, BitVec.ofNat 32 (k * 256 + shift k))
    let dup := fun j k : Nat =>
      (decide (shift j = shift k), 0x060201#24, BitVec.ofNat 32 (j * 256 + k))
    let rows : List (Bool × BitVec 24 × Word) :=
      [(s.bps == 0#32, 0x010401#24, 0#32), (decide (spc < 2), 0x020401#24, s.spc),
       (!finite s.f0, 0x090401#24, s.f0.extractLsb' 32 32),
       (!finite s.phi0, 0x0A0401#24, s.phi0.extractLsb' 32 32),
       (s.nBits == 0#32, 0x030301#24, 0#32),
       (decide (s.maxBits.toNat < n), 0x040301#24, s.nBits),
       range 0, range 1, range 2, range 3,
       dup 0 1, dup 0 2, dup 0 3, dup 1 2, dup 1 3, dup 2 3,
       (decide (s.maxSamples.toNat < samples), 0x080401#24,
         BitVec.ofNat 32 (min samples 0xFFFFFFFF)),
       (decide (s.maxSamples.toNat < refLen), 0x080601#24,
         BitVec.ofNat 32 (min refLen 0xFFFFFFFF)),
       (decide (cbf < 1), 0x010702#24, BitVec.ofInt 32 cbf),
       (decide (startEnd ≤ 0), 0x020702#24, BitVec.ofInt 32 startEnd)]
    ∀ row, rows.find? (fun r => r.1) = some row →
      exec .runPipeline s = .next
        { s with
          errCode := row.2.1, errInfo := row.2.2, pending := none
          status := { s.status with done := true, err := true } }

/-- R275, R276: without noise, RUN_PIPELINE completes whenever its prechecks pass and the codes are distinct:
every flag but RX_NOISY is set, the outputs are those of the configuration, two bits are decoded per symbol,
no error is raised, and nothing the host writes changes. The premises are the prechecks' own, on the
registers, and APPLY_NOISE = 0; a run with noise is the matter of RunPipelineFailsOnlyTwoWays and
StepKeepsCoherent. It does not say what LFSR_STATE holds, nor that NOISE is empty, which StepKeepsCoherent
gives for a step from a coherent state. -/
def Obligations.RunPipelineCompletes : Prop :=
  ∀ s : State, s.bps ≠ 0#32 → 2 ≤ s.spc.toNat → finite s.f0 = true → finite s.phi0 = true →
    4 ≤ s.nBits.toNat → s.nBits.toNat ≤ s.maxBits.toNat →
    shiftRangeError s = none → shiftDupError s = none → goldDupError (goldTable s) = none →
    2 * s.spc.toNat * (63 * (s.nBits.toNat / 2) / 2) ≤ s.maxSamples.toNat →
    62 * s.spc.toNat ≤ s.maxSamples.toNat → s.ctrl.applyNoise = false →
    ∃ t, exec .runPipeline s = .next t ∧
      flagByte t = 0xDF#8 ∧ OutputsCurrent t ∧ HostSideKept s t ∧
      t.noiseState = s.noiseState ∧ t.pending = none ∧
      t.status = { s.status with done := true } ∧ t.errCode = s.errCode ∧
      t.errInfo = s.errInfo ∧ t.dec.dec.length = 2 * (s.nBits.toNat / 2)

/-- R275: past its prechecks, RUN_PIPELINE can fail only with GOLD_NOT_DISTINCT, nothing being committed, or
with a NUMERIC_ERROR of ADD_NOISE, which leaves the outputs up to SIG_V committed and CORR_V and DEC_V
clear; otherwise RX_NOISY is APPLY_NOISE and every other flag is set. No SEQUENCE_ERROR can occur. Of the
committed outputs it gives the flags; that a set flag's outputs are right is StepKeepsCoherent. -/
def Obligations.RunPipelineFailsOnlyTwoWays : Prop :=
  ∀ s t : State, precheckError s = none → exec .runPipeline s = .next t →
    (∃ j k : Fin 4, j < k ∧ t = failedWith (.goldNotDistinct j k) s) ∨
    (s.ctrl.applyNoise = true ∧ t.status.err = true ∧ t.errCode.extractLsb' 0 16 = 0x0503#16 ∧
      flagByte t = 0x1F#8) ∨
    (t.status = { s.status with done := true } ∧ t.errCode = s.errCode ∧ t.errInfo = s.errInfo ∧
      flagByte t = if s.ctrl.applyNoise then 0xFF#8 else 0xDF#8)

/-! ### Host operations -/

/-- R277, R282: a full, aligned read of a register other than BUF_DATA and BUF_LEN completes, returns the
register's value, whether or not a command is in flight, and changes nothing but the host's last read, which is
the model's own field (log entry 7). R107 gives a read the DATA 0; that the DATA of a read has no effect,
whatever it is, is the model's reading (log entry 10). -/
def Obligations.ReadsReturnTheRegisters : Prop :=
  ∀ (s : State) (d : Word),
    let reads := fun (offset : BitVec 12) (v : Word) =>
      exec (.rd 0xF#4 offset d) s = .next { s with readData := v }
    reads 0x000#12 0x474F4C44#32 ∧ reads 0x004#12 0x00000001#32 ∧
    reads 0x008#12 (0#29 ++ BitVec.ofBool s.ctrl.applyNoise ++ BitVec.ofBool s.ctrl.noiseSrc ++ 0#1) ∧
    reads 0x00C#12 s.cmd ∧
    reads 0x010#12
      (0#16 ++ BitVec.ofBool s.dec.valid ++ BitVec.ofBool s.corr.valid ++
        BitVec.ofBool s.noisy.valid ++ BitVec.ofBool s.sig.valid ++ BitVec.ofBool s.chip.valid ++
        BitVec.ofBool s.gold.valid ++ BitVec.ofBool s.msb.valid ++ BitVec.ofBool s.msa.valid ++
        0#3 ++ BitVec.ofBool s.status.aerr ++ BitVec.ofBool s.status.werr ++
        BitVec.ofBool s.status.err ++ BitVec.ofBool s.status.done ++
        BitVec.ofBool s.pending.isSome) ∧
    reads 0x014#12 (0#29 ++ BitVec.ofBool s.irqEn.errIe ++ BitVec.ofBool s.irqEn.doneIe ++ 0#1) ∧
    reads 0x018#12 (0#8 ++ s.errCode) ∧ reads 0x01C#12 s.errInfo ∧
    reads 0x020#12 (0#26 ++ s.tapsA) ∧ reads 0x024#12 (0#26 ++ s.tapsB) ∧
    reads 0x028#12 s.shifts ∧ reads 0x02C#12 (0#26 ++ s.lfsr) ∧ reads 0x030#12 s.nBits ∧
    reads 0x034#12 s.bps ∧ reads 0x038#12 s.spc ∧
    reads 0x040#12 (s.f0.extractLsb' 0 32) ∧ reads 0x044#12 (s.f0.extractLsb' 32 32) ∧
    reads 0x048#12 (s.phi0.extractLsb' 0 32) ∧ reads 0x04C#12 (s.phi0.extractLsb' 32 32) ∧
    reads 0x050#12 (s.snrDb.extractLsb' 0 32) ∧ reads 0x054#12 (s.snrDb.extractLsb' 32 32) ∧
    reads 0x058#12 (s.a0.extractLsb' 0 32) ∧ reads 0x05C#12 (s.a0.extractLsb' 32 32) ∧
    reads 0x060#12 s.chip.nChips ∧ reads 0x064#12 s.sig.nSamp ∧ reads 0x068#12 s.corr.refLen ∧
    reads 0x06C#12 s.corr.corrLen ∧ reads 0x070#12 s.dec.nDec ∧ reads 0x074#12 s.dec.berErrs ∧
    reads 0x078#12 s.dec.berDen ∧ reads 0x080#12 (s.dec.ber.extractLsb' 0 32) ∧
    reads 0x084#12 (s.dec.ber.extractLsb' 32 32) ∧
    reads 0x088#12 (s.noisy.norm.extractLsb' 0 32) ∧
    reads 0x08C#12 (s.noisy.norm.extractLsb' 32 32) ∧
    reads 0x090#12 s.dec.cbf ∧ reads 0x094#12 s.dec.interval ∧ reads 0x098#12 s.dec.startEnd ∧
    reads 0x0A0#12 s.maxBits ∧ reads 0x0A4#12 s.maxSamples ∧
    reads 0x0C0#12 (0#27 ++ s.bufSel) ∧ reads 0x0C4#12 s.bufIndex

/-- R76, R46: a read through the buffer port returns the low or high half of the selected element, and of a
reserved buffer or an index at or above the buffer's length 0 with AERR; BUF_LEN reads the length. The
lengths and elements are those of R50's table. R107 gives a read the DATA 0; that the DATA of a read has no
effect, whatever it is, is the model's reading (log entry 10), and the host's last read is the model's own field
(log entry 7). -/
def Obligations.PortReadsTheSelectedElement : Prop :=
  ∀ (s : State) (d : Word),
    let k := s.bufIndex.toNat
    let bits := fun (l : List Bool) =>
      (l.length, l[k]?.map (fun b => (if b then 1#64 else 0#64 : F64)))
    let reals := fun (l : List F64) => (l.length, l[k]?)
    let buffers : List (Nat × Option F64) :=
      [(s.maxBits.toNat,
          if k < s.maxBits.toNat then some (if readBit s k then 1#64 else 0#64) else none),
       bits s.msa.seq, bits s.msb.seq, bits s.gold.codes.k0, bits s.gold.codes.k1,
       bits s.gold.codes.k2, bits s.gold.codes.k3, bits s.chip.chips, reals s.sig.sigI,
       reals s.sig.sigQ, reals s.sig.env,
       (s.maxSamples.toNat, if k < s.maxSamples.toNat then some (readNraw s k) else none),
       reals s.noisy.noise, reals s.sig.rx,
       (s.sig.nSamp.toNat,
          if k < s.sig.nSamp.toNat then
            some (fmul (f64OfNat k) (fdiv fOne (f64OfNat (s.spc.toNat * s.bps.toNat))))
          else none),
       reals s.corr.refs.k0, reals s.corr.refs.k1, reals s.corr.refs.k2, reals s.corr.refs.k3,
       reals s.corr.traces.k0, reals s.corr.traces.k1, reals s.corr.traces.k2,
       reals s.corr.traces.k3, bits s.dec.dec]
    let selected := buffers.getD s.bufSel.toNat (0, none)
    exec (.rd 0xF#4 0x0D0#12 d) s =
      .next { s with readData := BitVec.ofNat 32 selected.1 } ∧
    (∀ e, selected.2 = some e →
      exec (.rd 0xF#4 0x0C8#12 d) s = .next { s with readData := e.extractLsb' 0 32 } ∧
      exec (.rd 0xF#4 0x0CC#12 d) s = .next { s with readData := e.extractLsb' 32 32 }) ∧
    (selected.2 = none → ∀ offset, offset = 0x0C8#12 ∨ offset = 0x0CC#12 →
      exec (.rd 0xF#4 offset d) s =
        .next { s with readData := 0#32, status := { s.status with aerr := true } })

/-- R74, R75, R47: with partial byte enables, a misaligned offset, an unmapped offset or one of 0x100 or more,
a read returns 0 and a write changes nothing, and either sets AERR; while a command is in flight the bad
write also sets WERR, which is the model's reading of R281 (log entry 9). That a read's DATA has no effect is
the model's reading of R107 (log entry 10). -/
def Obligations.BadAccessesOnlySetAerr : Prop :=
  ∀ (s : State) (be : BitVec 4) (offset : BitVec 12) (d : Word),
    (be ≠ 0xF#4 ∨ offset.toNat % 4 ≠ 0 ∨ 0x100 ≤ offset.toNat ∨
      offset.toNat ∈ [0x03C, 0x07C, 0x09C, 0x0A8, 0x0AC, 0x0B0, 0x0B4, 0x0B8, 0x0BC] ∨
      0x0D4 ≤ offset.toNat) →
    exec (.rd be offset d) s =
      .next { s with readData := 0#32, status := { s.status with aerr := true } } ∧
    exec (.wr be offset d) s =
      .next { s with
        status := { s.status with aerr := true, werr := s.status.werr || s.pending.isSome } }

/-- R81: a read changes nothing but the host's last read and AERR, and reading again gives the same value and
the same state. That this holds whatever the read's DATA is rests on the model's reading of R107 (log entry
10). -/
def Obligations.ReadsAreIdempotent : Prop :=
  ∀ (s t : State) (be : BitVec 4) (offset : BitVec 12) (d : Word),
    exec (.rd be offset d) s = .next t →
    (∃ aerr, t = { s with
      readData := t.readData, status := { s.status with aerr := s.status.aerr || aerr } }) ∧
    exec (.rd be offset d) t = .next t

/-- R278, R48, R49, R73: while idle, a write of a configuration register stores the register's bits and the
half of an f64 it names, and clears exactly the flags R48 lists with what they own; nothing else changes. -/
def Obligations.ConfigurationWritesInvalidate : Prop :=
  ∀ (s : State) (d : Word), s.pending = none →
    let writes := fun (offset : BitVec 12) (t : State) => exec (.wr 0xF#4 offset d) s = .next t
    let noSig := fun u : State => { u with
      sig := SigBank.empty, noisy := NoiseBank.empty, corr := CorrBank.empty, dec := DecBank.empty }
    let noChip := fun u : State => { noSig u with chip := ChipBank.empty }
    let noGold := fun u : State => { noChip u with gold := GoldBank.empty }
    (d.getLsbD 0 = false → writes 0x008#12 { s with ctrl := ⟨d.getLsbD 1, d.getLsbD 2⟩ }) ∧
    writes 0x014#12 { s with irqEn := ⟨d.getLsbD 1, d.getLsbD 2⟩ } ∧
    writes 0x020#12 { noGold s with tapsA := d.extractLsb' 0 6, msa := MseqBank.empty } ∧
    writes 0x024#12 { noGold s with tapsB := d.extractLsb' 0 6, msb := MseqBank.empty } ∧
    writes 0x028#12 { noGold s with shifts := d } ∧
    writes 0x030#12 { noChip s with nBits := d } ∧
    writes 0x034#12 { noSig s with bps := d } ∧ writes 0x038#12 { noSig s with spc := d } ∧
    writes 0x040#12 { noSig s with f0 := s.f0.extractLsb' 32 32 ++ d } ∧
    writes 0x044#12 { noSig s with f0 := d ++ s.f0.extractLsb' 0 32 } ∧
    writes 0x048#12 { noSig s with phi0 := s.phi0.extractLsb' 32 32 ++ d } ∧
    writes 0x04C#12 { noSig s with phi0 := d ++ s.phi0.extractLsb' 0 32 } ∧
    writes 0x050#12 { s with snrDb := s.snrDb.extractLsb' 32 32 ++ d } ∧
    writes 0x054#12 { s with snrDb := d ++ s.snrDb.extractLsb' 0 32 } ∧
    writes 0x058#12 { s with a0 := s.a0.extractLsb' 32 32 ++ d } ∧
    writes 0x05C#12 { s with a0 := d ++ s.a0.extractLsb' 0 32 } ∧
    writes 0x0C0#12 { s with bufSel := d.extractLsb' 0 5 } ∧
    writes 0x0C4#12 { s with bufIndex := d }

/-- R278, R22, R23: while idle, a write to a read-only register sets WERR and changes nothing else. -/
def Obligations.ReadOnlyWritesSetWerr : Prop :=
  ∀ (s : State) (d : Word) (offset : BitVec 12), s.pending = none →
    offset.toNat ∈ [0x000, 0x004, 0x018, 0x01C, 0x02C, 0x060, 0x064, 0x068, 0x06C, 0x070, 0x074,
      0x078, 0x080, 0x084, 0x088, 0x08C, 0x090, 0x094, 0x098, 0x0A0, 0x0A4, 0x0D0] →
    exec (.wr 0xF#4 offset d) s = .next { s with status := { s.status with werr := true } }

/-- R281: while a command is in flight every write to a register is dropped and sets WERR, but for a CTRL write
with bit 0 set. -/
def Obligations.WritesWhileBusyAreDropped : Prop :=
  ∀ (s : State) (d : Word) (offset : BitVec 12), s.pending ≠ none → offset.toNat % 4 = 0 →
    offset.toNat < 0xD4 →
    offset.toNat ∉ [0x03C, 0x07C, 0x09C, 0x0A8, 0x0AC, 0x0B0, 0x0B4, 0x0B8, 0x0BC] →
    ¬ (offset = 0x008#12 ∧ d.getLsbD 0 = true) →
    exec (.wr 0xF#4 offset d) s = .next { s with status := { s.status with werr := true } }

/-- R270, R271: a CMD write is accepted when no command is in flight and ERR is 0: CMD and pending take the word,
legal or not, and DONE is cleared; otherwise it is dropped and sets WERR. Nothing else changes. -/
def Obligations.CommandWritesAreAcceptedOrDropped : Prop :=
  ∀ (s : State) (w : Word),
    (s.pending = none → s.status.err = false →
      exec (.wr 0xF#4 0x00C#12 w) s = .next
        { s with cmd := w, pending := some w, status := { s.status with done := false } }) ∧
    (s.pending ≠ none ∨ s.status.err = true →
      exec (.wr 0xF#4 0x00C#12 w) s = .next
        { s with status := { s.status with werr := true } })

/-- R279, R306: while idle, a STATUS write clears DONE, ERR with ERR_CODE and ERR_INFO, WERR and AERR where bits
1 to 4 of its data are 1, and changes nothing else. -/
def Obligations.StatusWritesClearByOnes : Prop :=
  ∀ (s : State) (d : Word), s.pending = none →
    exec (.wr 0xF#4 0x010#12 d) s = .next
      { s with
        status :=
          { done := s.status.done && !d.getLsbD 1, err := s.status.err && !d.getLsbD 2
            werr := s.status.werr && !d.getLsbD 3, aerr := s.status.aerr && !d.getLsbD 4 }
        errCode := if d.getLsbD 2 then 0#24 else s.errCode
        errInfo := if d.getLsbD 2 then 0#32 else s.errInfo }

/-- R77, R78, R79, R48: while idle, a write through the port to BITS stores data[0] (low register) or nothing (high
register) and clears CHIP_V and later flags; to NRAW it replaces one half of the cell and clears no flag; every
other cell of both memories, and everything else, is unchanged. An index at or above the capacity or a reserved
buffer only sets AERR, and a read-only buffer only WERR. The premise is that memory is in its form. -/
def Obligations.PortWritesOneCell : Prop :=
  ∀ (s : State) (d : Word), s.pending = none → s.mem.wf = true →
    let k := s.bufIndex.toNat
    let lo := exec (.wr 0xF#4 0x0C8#12 d) s
    let hi := exec (.wr 0xF#4 0x0CC#12 d) s
    let aerr := { s with status := { s.status with aerr := true } }
    let werr := { s with status := { s.status with werr := true } }
    let noChip := { s with
      chip := ChipBank.empty, sig := SigBank.empty, noisy := NoiseBank.empty
      corr := CorrBank.empty, dec := DecBank.empty }
    (s.bufSel = 0#5 → k < s.maxBits.toNat →
      hi = .next noChip ∧
      ∃ m, lo = .next { noChip with mem := m } ∧ m.nraw = s.mem.nraw ∧ m.wf = true ∧
        ∀ j, (ramRead m.bits j == 1#1) = if j = k then d.getLsbD 0 else readBit s j) ∧
    (s.bufSel = 11#5 → k < s.maxSamples.toNat →
      ∃ m m', lo = .next { s with mem := m } ∧ hi = .next { s with mem := m' } ∧
        m.bits = s.mem.bits ∧ m'.bits = s.mem.bits ∧ m.wf = true ∧ m'.wf = true ∧
        ∀ j, ramRead m.nraw j =
            (if j = k then (readNraw s k).extractLsb' 32 32 ++ d else readNraw s j) ∧
          ramRead m'.nraw j =
            (if j = k then d ++ (readNraw s k).extractLsb' 0 32 else readNraw s j)) ∧
    (s.bufSel = 0#5 → s.maxBits.toNat ≤ k → lo = .next aerr ∧ hi = .next aerr) ∧
    (s.bufSel = 11#5 → s.maxSamples.toNat ≤ k → lo = .next aerr ∧ hi = .next aerr) ∧
    (24 ≤ s.bufSel.toNat → lo = .next aerr ∧ hi = .next aerr) ∧
    (s.bufSel.toNat < 24 → s.bufSel ≠ 0#5 → s.bufSel ≠ 11#5 → lo = .next werr ∧ hi = .next werr)

/-- R54, R310, R311: the interrupt line is the OR of the two pending bits under their enables; in particular it
rises with an enable whose bit is pending, a completion with DONE_IE raises it, and WERR and AERR do not move
it. -/
def Obligations.InterruptLineFollowsTheCauses : Prop :=
  ∀ s : State,
    (irq s = true ↔
      (s.status.done = true ∧ s.irqEn.doneIe = true) ∨
        (s.status.err = true ∧ s.irqEn.errIe = true)) ∧
    (∀ i t, isCommand i = true → exec i s = .next t → s.irqEn.doneIe = true → irq t = true) ∧
    irq (setWerr s) = irq s ∧ irq (setAerr s) = irq s

/-! ### Rules about the whole machine -/

/-- R272, R304, 10_state.md R33 to R40 and R51, R52: no command writes a register or a memory that only the host
writes, or moves WERR or AERR; every command completes, leaving no command in flight and DONE set. -/
def Obligations.CommandsKeepTheHostSide : Prop :=
  ∀ (i : Instr) (s : State), isCommand i = true →
    ∃ t, exec i s = .next t ∧ HostSideKept s t ∧ t.pending = none ∧ t.status.done = true

/-- R304: a command other than ADD_NOISE and RUN_PIPELINE that ends in an error changes nothing but ERR_CODE,
ERR_INFO, ERR, DONE and pending. -/
def Obligations.ErrorsArePrecise : Prop :=
  ∀ (i : Instr) (s t : State), isCommand i = true → i ≠ .addNoise → i ≠ .runPipeline →
    s.status.err = false → exec i s = .next t → t.status.err = true →
    t = { s with
      errCode := t.errCode, errInfo := t.errInfo, pending := none
      status := { s.status with done := true, err := true } }

/-- R27, R306, R340, R341: a step ends with ERR at 0 after it was 1 only if it was a STATUS write with bit 2, a CTRL
write with bit 0, or a hard reset; and while ERR stays 1 and no command is in flight, ERR_CODE and ERR_INFO keep
their values. -/
def Obligations.ErrorsStayUntilCleared : Prop :=
  ∀ s t : State, step s = .next t → s.status.err = true → s.pending = none →
    (t.status.err = true ∧ t.errCode = s.errCode ∧ t.errInfo = s.errInfo ∧ t.pending = none) ∨
    (t.status.err = false ∧ t.errCode = 0#24 ∧ t.errInfo = 0#32 ∧
      ((∃ w rest d, s.events = .transaction w :: rest ∧
          decodeTransaction w = .wr 0xF#4 0x010#12 d ∧ d.getLsbD 2 = true) ∨
        (∃ w rest d, s.events = .transaction w :: rest ∧
          decodeTransaction w = .wr 0xF#4 0x008#12 d ∧ d.getLsbD 0 = true) ∨
        ∃ n rest, s.events = .hardReset n :: rest))

/-- R39: no command reads A0: from two states that differ only in A0, a command's next states differ only in A0. -/
def Obligations.NoStageReadsTheAmplitude : Prop :=
  ∀ (i : Instr) (s t : State) (v : F64), isCommand i = true → exec i s = .next t →
    exec i { s with a0 := v } = .next { t with a0 := v }

/-- R11: f64(n) has the value n for every integer up to 2^53: its significand times its power of two is n, and it is
finite and not negative. -/
def Obligations.SmallIntegersAreExact : Prop :=
  ∀ n : Nat, n ≤ 2 ^ 53 →
    finite (f64OfNat n) = true ∧ fNeg (f64OfNat n) = false ∧
    (fMant (f64OfNat n) : Rat) * 2 ^ fScale (f64OfNat n) = n

/-! ### Invariants -/

/-- R51, R52, R77, R78 and the model's own form of memory (log entry 12): every step keeps both RAMs in their canonical
form and within their capacities. -/
def Obligations.StepKeepsMemoryGood : Prop :=
  ∀ s t : State, MemoryGood s → step s = .next t → MemoryGood t

/-- R27, R270, R271, R303, R306, R307: every step keeps the handshake: ERR_CODE and ERR_INFO are 0 while ERR is 0, a
recorded error has a class, and a command in flight has ERR and DONE at 0. -/
def Obligations.StepKeepsHandshake : Prop :=
  ∀ s t : State, Handshake s → step s = .next t → Handshake t

/-- R48, R49, R80, R25: every step keeps the valid flags truthful: a set flag has its inputs' flags set and its buffers
hold what its stage computes from the current configuration, and a clear flag owns nothing. -/
def Obligations.StepKeepsCoherent : Prop :=
  ∀ s t : State, Coherent s → step s = .next t → Coherent t

/-- R55: the reset state is good in every sense above. -/
def Obligations.ResetIsGood : Prop :=
  MemoryGood State.reset ∧ Handshake State.reset ∧ Coherent State.reset
end

