-- ==== Sys2Proof/Laws/State.lean ====
section
/-!
SUPPORT. One lemma per field per named update of State, each true by rfl, and the whole effect of
each invalidation (R49).
-/

namespace Sys2Proof.Machine

open Sys2Proof

/-! ### setWerr -/

@[simp] theorem setWerr_ctrl (s : State) : (setWerr s).ctrl = s.ctrl := rfl
@[simp] theorem setWerr_cmd (s : State) : (setWerr s).cmd = s.cmd := rfl
@[simp] theorem setWerr_status (s : State) : (setWerr s).status = { s.status with werr := true } := rfl
@[simp] theorem setWerr_irqEn (s : State) : (setWerr s).irqEn = s.irqEn := rfl
@[simp] theorem setWerr_errCode (s : State) : (setWerr s).errCode = s.errCode := rfl
@[simp] theorem setWerr_errInfo (s : State) : (setWerr s).errInfo = s.errInfo := rfl
@[simp] theorem setWerr_tapsA (s : State) : (setWerr s).tapsA = s.tapsA := rfl
@[simp] theorem setWerr_tapsB (s : State) : (setWerr s).tapsB = s.tapsB := rfl
@[simp] theorem setWerr_shifts (s : State) : (setWerr s).shifts = s.shifts := rfl
@[simp] theorem setWerr_lfsr (s : State) : (setWerr s).lfsr = s.lfsr := rfl
@[simp] theorem setWerr_nBits (s : State) : (setWerr s).nBits = s.nBits := rfl
@[simp] theorem setWerr_bps (s : State) : (setWerr s).bps = s.bps := rfl
@[simp] theorem setWerr_spc (s : State) : (setWerr s).spc = s.spc := rfl
@[simp] theorem setWerr_f0 (s : State) : (setWerr s).f0 = s.f0 := rfl
@[simp] theorem setWerr_phi0 (s : State) : (setWerr s).phi0 = s.phi0 := rfl
@[simp] theorem setWerr_snrDb (s : State) : (setWerr s).snrDb = s.snrDb := rfl
@[simp] theorem setWerr_a0 (s : State) : (setWerr s).a0 = s.a0 := rfl
@[simp] theorem setWerr_bufSel (s : State) : (setWerr s).bufSel = s.bufSel := rfl
@[simp] theorem setWerr_bufIndex (s : State) : (setWerr s).bufIndex = s.bufIndex := rfl
@[simp] theorem setWerr_maxBits (s : State) : (setWerr s).maxBits = s.maxBits := rfl
@[simp] theorem setWerr_maxSamples (s : State) : (setWerr s).maxSamples = s.maxSamples := rfl
@[simp] theorem setWerr_msa (s : State) : (setWerr s).msa = s.msa := rfl
@[simp] theorem setWerr_msb (s : State) : (setWerr s).msb = s.msb := rfl
@[simp] theorem setWerr_gold (s : State) : (setWerr s).gold = s.gold := rfl
@[simp] theorem setWerr_chip (s : State) : (setWerr s).chip = s.chip := rfl
@[simp] theorem setWerr_sig (s : State) : (setWerr s).sig = s.sig := rfl
@[simp] theorem setWerr_noisy (s : State) : (setWerr s).noisy = s.noisy := rfl
@[simp] theorem setWerr_corr (s : State) : (setWerr s).corr = s.corr := rfl
@[simp] theorem setWerr_dec (s : State) : (setWerr s).dec = s.dec := rfl
@[simp] theorem setWerr_mem (s : State) : (setWerr s).mem = s.mem := rfl
@[simp] theorem setWerr_pending (s : State) : (setWerr s).pending = s.pending := rfl
@[simp] theorem setWerr_noiseState (s : State) : (setWerr s).noiseState = s.noiseState := rfl
@[simp] theorem setWerr_events (s : State) : (setWerr s).events = s.events := rfl
@[simp] theorem setWerr_readData (s : State) : (setWerr s).readData = s.readData := rfl

/-! ### setAerr -/

@[simp] theorem setAerr_ctrl (s : State) : (setAerr s).ctrl = s.ctrl := rfl
@[simp] theorem setAerr_cmd (s : State) : (setAerr s).cmd = s.cmd := rfl
@[simp] theorem setAerr_status (s : State) : (setAerr s).status = { s.status with aerr := true } := rfl
@[simp] theorem setAerr_irqEn (s : State) : (setAerr s).irqEn = s.irqEn := rfl
@[simp] theorem setAerr_errCode (s : State) : (setAerr s).errCode = s.errCode := rfl
@[simp] theorem setAerr_errInfo (s : State) : (setAerr s).errInfo = s.errInfo := rfl
@[simp] theorem setAerr_tapsA (s : State) : (setAerr s).tapsA = s.tapsA := rfl
@[simp] theorem setAerr_tapsB (s : State) : (setAerr s).tapsB = s.tapsB := rfl
@[simp] theorem setAerr_shifts (s : State) : (setAerr s).shifts = s.shifts := rfl
@[simp] theorem setAerr_lfsr (s : State) : (setAerr s).lfsr = s.lfsr := rfl
@[simp] theorem setAerr_nBits (s : State) : (setAerr s).nBits = s.nBits := rfl
@[simp] theorem setAerr_bps (s : State) : (setAerr s).bps = s.bps := rfl
@[simp] theorem setAerr_spc (s : State) : (setAerr s).spc = s.spc := rfl
@[simp] theorem setAerr_f0 (s : State) : (setAerr s).f0 = s.f0 := rfl
@[simp] theorem setAerr_phi0 (s : State) : (setAerr s).phi0 = s.phi0 := rfl
@[simp] theorem setAerr_snrDb (s : State) : (setAerr s).snrDb = s.snrDb := rfl
@[simp] theorem setAerr_a0 (s : State) : (setAerr s).a0 = s.a0 := rfl
@[simp] theorem setAerr_bufSel (s : State) : (setAerr s).bufSel = s.bufSel := rfl
@[simp] theorem setAerr_bufIndex (s : State) : (setAerr s).bufIndex = s.bufIndex := rfl
@[simp] theorem setAerr_maxBits (s : State) : (setAerr s).maxBits = s.maxBits := rfl
@[simp] theorem setAerr_maxSamples (s : State) : (setAerr s).maxSamples = s.maxSamples := rfl
@[simp] theorem setAerr_msa (s : State) : (setAerr s).msa = s.msa := rfl
@[simp] theorem setAerr_msb (s : State) : (setAerr s).msb = s.msb := rfl
@[simp] theorem setAerr_gold (s : State) : (setAerr s).gold = s.gold := rfl
@[simp] theorem setAerr_chip (s : State) : (setAerr s).chip = s.chip := rfl
@[simp] theorem setAerr_sig (s : State) : (setAerr s).sig = s.sig := rfl
@[simp] theorem setAerr_noisy (s : State) : (setAerr s).noisy = s.noisy := rfl
@[simp] theorem setAerr_corr (s : State) : (setAerr s).corr = s.corr := rfl
@[simp] theorem setAerr_dec (s : State) : (setAerr s).dec = s.dec := rfl
@[simp] theorem setAerr_mem (s : State) : (setAerr s).mem = s.mem := rfl
@[simp] theorem setAerr_pending (s : State) : (setAerr s).pending = s.pending := rfl
@[simp] theorem setAerr_noiseState (s : State) : (setAerr s).noiseState = s.noiseState := rfl
@[simp] theorem setAerr_events (s : State) : (setAerr s).events = s.events := rfl
@[simp] theorem setAerr_readData (s : State) : (setAerr s).readData = s.readData := rfl

/-! ### recordError -/

@[simp] theorem recordError_ctrl (e : CmdError) (s : State) : (recordError e s).ctrl = s.ctrl := rfl
@[simp] theorem recordError_cmd (e : CmdError) (s : State) : (recordError e s).cmd = s.cmd := rfl
@[simp] theorem recordError_status (e : CmdError) (s : State) : (recordError e s).status = { s.status with err := true } := rfl
@[simp] theorem recordError_irqEn (e : CmdError) (s : State) : (recordError e s).irqEn = s.irqEn := rfl
@[simp] theorem recordError_errCode (e : CmdError) (s : State) : (recordError e s).errCode = errorWord e := rfl
@[simp] theorem recordError_errInfo (e : CmdError) (s : State) : (recordError e s).errInfo = errorInfo e := rfl
@[simp] theorem recordError_tapsA (e : CmdError) (s : State) : (recordError e s).tapsA = s.tapsA := rfl
@[simp] theorem recordError_tapsB (e : CmdError) (s : State) : (recordError e s).tapsB = s.tapsB := rfl
@[simp] theorem recordError_shifts (e : CmdError) (s : State) : (recordError e s).shifts = s.shifts := rfl
@[simp] theorem recordError_lfsr (e : CmdError) (s : State) : (recordError e s).lfsr = s.lfsr := rfl
@[simp] theorem recordError_nBits (e : CmdError) (s : State) : (recordError e s).nBits = s.nBits := rfl
@[simp] theorem recordError_bps (e : CmdError) (s : State) : (recordError e s).bps = s.bps := rfl
@[simp] theorem recordError_spc (e : CmdError) (s : State) : (recordError e s).spc = s.spc := rfl
@[simp] theorem recordError_f0 (e : CmdError) (s : State) : (recordError e s).f0 = s.f0 := rfl
@[simp] theorem recordError_phi0 (e : CmdError) (s : State) : (recordError e s).phi0 = s.phi0 := rfl
@[simp] theorem recordError_snrDb (e : CmdError) (s : State) : (recordError e s).snrDb = s.snrDb := rfl
@[simp] theorem recordError_a0 (e : CmdError) (s : State) : (recordError e s).a0 = s.a0 := rfl
@[simp] theorem recordError_bufSel (e : CmdError) (s : State) : (recordError e s).bufSel = s.bufSel := rfl
@[simp] theorem recordError_bufIndex (e : CmdError) (s : State) : (recordError e s).bufIndex = s.bufIndex := rfl
@[simp] theorem recordError_maxBits (e : CmdError) (s : State) : (recordError e s).maxBits = s.maxBits := rfl
@[simp] theorem recordError_maxSamples (e : CmdError) (s : State) : (recordError e s).maxSamples = s.maxSamples := rfl
@[simp] theorem recordError_msa (e : CmdError) (s : State) : (recordError e s).msa = s.msa := rfl
@[simp] theorem recordError_msb (e : CmdError) (s : State) : (recordError e s).msb = s.msb := rfl
@[simp] theorem recordError_gold (e : CmdError) (s : State) : (recordError e s).gold = s.gold := rfl
@[simp] theorem recordError_chip (e : CmdError) (s : State) : (recordError e s).chip = s.chip := rfl
@[simp] theorem recordError_sig (e : CmdError) (s : State) : (recordError e s).sig = s.sig := rfl
@[simp] theorem recordError_noisy (e : CmdError) (s : State) : (recordError e s).noisy = s.noisy := rfl
@[simp] theorem recordError_corr (e : CmdError) (s : State) : (recordError e s).corr = s.corr := rfl
@[simp] theorem recordError_dec (e : CmdError) (s : State) : (recordError e s).dec = s.dec := rfl
@[simp] theorem recordError_mem (e : CmdError) (s : State) : (recordError e s).mem = s.mem := rfl
@[simp] theorem recordError_pending (e : CmdError) (s : State) : (recordError e s).pending = s.pending := rfl
@[simp] theorem recordError_noiseState (e : CmdError) (s : State) : (recordError e s).noiseState = s.noiseState := rfl
@[simp] theorem recordError_events (e : CmdError) (s : State) : (recordError e s).events = s.events := rfl
@[simp] theorem recordError_readData (e : CmdError) (s : State) : (recordError e s).readData = s.readData := rfl

/-! ### clearError -/

@[simp] theorem clearError_ctrl (s : State) : (clearError s).ctrl = s.ctrl := rfl
@[simp] theorem clearError_cmd (s : State) : (clearError s).cmd = s.cmd := rfl
@[simp] theorem clearError_status (s : State) : (clearError s).status = { s.status with err := false } := rfl
@[simp] theorem clearError_irqEn (s : State) : (clearError s).irqEn = s.irqEn := rfl
@[simp] theorem clearError_errCode (s : State) : (clearError s).errCode = 0#24 := rfl
@[simp] theorem clearError_errInfo (s : State) : (clearError s).errInfo = 0#32 := rfl
@[simp] theorem clearError_tapsA (s : State) : (clearError s).tapsA = s.tapsA := rfl
@[simp] theorem clearError_tapsB (s : State) : (clearError s).tapsB = s.tapsB := rfl
@[simp] theorem clearError_shifts (s : State) : (clearError s).shifts = s.shifts := rfl
@[simp] theorem clearError_lfsr (s : State) : (clearError s).lfsr = s.lfsr := rfl
@[simp] theorem clearError_nBits (s : State) : (clearError s).nBits = s.nBits := rfl
@[simp] theorem clearError_bps (s : State) : (clearError s).bps = s.bps := rfl
@[simp] theorem clearError_spc (s : State) : (clearError s).spc = s.spc := rfl
@[simp] theorem clearError_f0 (s : State) : (clearError s).f0 = s.f0 := rfl
@[simp] theorem clearError_phi0 (s : State) : (clearError s).phi0 = s.phi0 := rfl
@[simp] theorem clearError_snrDb (s : State) : (clearError s).snrDb = s.snrDb := rfl
@[simp] theorem clearError_a0 (s : State) : (clearError s).a0 = s.a0 := rfl
@[simp] theorem clearError_bufSel (s : State) : (clearError s).bufSel = s.bufSel := rfl
@[simp] theorem clearError_bufIndex (s : State) : (clearError s).bufIndex = s.bufIndex := rfl
@[simp] theorem clearError_maxBits (s : State) : (clearError s).maxBits = s.maxBits := rfl
@[simp] theorem clearError_maxSamples (s : State) : (clearError s).maxSamples = s.maxSamples := rfl
@[simp] theorem clearError_msa (s : State) : (clearError s).msa = s.msa := rfl
@[simp] theorem clearError_msb (s : State) : (clearError s).msb = s.msb := rfl
@[simp] theorem clearError_gold (s : State) : (clearError s).gold = s.gold := rfl
@[simp] theorem clearError_chip (s : State) : (clearError s).chip = s.chip := rfl
@[simp] theorem clearError_sig (s : State) : (clearError s).sig = s.sig := rfl
@[simp] theorem clearError_noisy (s : State) : (clearError s).noisy = s.noisy := rfl
@[simp] theorem clearError_corr (s : State) : (clearError s).corr = s.corr := rfl
@[simp] theorem clearError_dec (s : State) : (clearError s).dec = s.dec := rfl
@[simp] theorem clearError_mem (s : State) : (clearError s).mem = s.mem := rfl
@[simp] theorem clearError_pending (s : State) : (clearError s).pending = s.pending := rfl
@[simp] theorem clearError_noiseState (s : State) : (clearError s).noiseState = s.noiseState := rfl
@[simp] theorem clearError_events (s : State) : (clearError s).events = s.events := rfl
@[simp] theorem clearError_readData (s : State) : (clearError s).readData = s.readData := rfl

/-! ### finish -/

@[simp] theorem finish_ctrl (s : State) : (finish s).ctrl = s.ctrl := rfl
@[simp] theorem finish_cmd (s : State) : (finish s).cmd = s.cmd := rfl
@[simp] theorem finish_status (s : State) : (finish s).status = { s.status with done := true } := rfl
@[simp] theorem finish_irqEn (s : State) : (finish s).irqEn = s.irqEn := rfl
@[simp] theorem finish_errCode (s : State) : (finish s).errCode = s.errCode := rfl
@[simp] theorem finish_errInfo (s : State) : (finish s).errInfo = s.errInfo := rfl
@[simp] theorem finish_tapsA (s : State) : (finish s).tapsA = s.tapsA := rfl
@[simp] theorem finish_tapsB (s : State) : (finish s).tapsB = s.tapsB := rfl
@[simp] theorem finish_shifts (s : State) : (finish s).shifts = s.shifts := rfl
@[simp] theorem finish_lfsr (s : State) : (finish s).lfsr = s.lfsr := rfl
@[simp] theorem finish_nBits (s : State) : (finish s).nBits = s.nBits := rfl
@[simp] theorem finish_bps (s : State) : (finish s).bps = s.bps := rfl
@[simp] theorem finish_spc (s : State) : (finish s).spc = s.spc := rfl
@[simp] theorem finish_f0 (s : State) : (finish s).f0 = s.f0 := rfl
@[simp] theorem finish_phi0 (s : State) : (finish s).phi0 = s.phi0 := rfl
@[simp] theorem finish_snrDb (s : State) : (finish s).snrDb = s.snrDb := rfl
@[simp] theorem finish_a0 (s : State) : (finish s).a0 = s.a0 := rfl
@[simp] theorem finish_bufSel (s : State) : (finish s).bufSel = s.bufSel := rfl
@[simp] theorem finish_bufIndex (s : State) : (finish s).bufIndex = s.bufIndex := rfl
@[simp] theorem finish_maxBits (s : State) : (finish s).maxBits = s.maxBits := rfl
@[simp] theorem finish_maxSamples (s : State) : (finish s).maxSamples = s.maxSamples := rfl
@[simp] theorem finish_msa (s : State) : (finish s).msa = s.msa := rfl
@[simp] theorem finish_msb (s : State) : (finish s).msb = s.msb := rfl
@[simp] theorem finish_gold (s : State) : (finish s).gold = s.gold := rfl
@[simp] theorem finish_chip (s : State) : (finish s).chip = s.chip := rfl
@[simp] theorem finish_sig (s : State) : (finish s).sig = s.sig := rfl
@[simp] theorem finish_noisy (s : State) : (finish s).noisy = s.noisy := rfl
@[simp] theorem finish_corr (s : State) : (finish s).corr = s.corr := rfl
@[simp] theorem finish_dec (s : State) : (finish s).dec = s.dec := rfl
@[simp] theorem finish_mem (s : State) : (finish s).mem = s.mem := rfl
@[simp] theorem finish_pending (s : State) : (finish s).pending = none := rfl
@[simp] theorem finish_noiseState (s : State) : (finish s).noiseState = s.noiseState := rfl
@[simp] theorem finish_events (s : State) : (finish s).events = s.events := rfl
@[simp] theorem finish_readData (s : State) : (finish s).readData = s.readData := rfl

/-! ### acceptCommand -/

@[simp] theorem acceptCommand_ctrl (w : Word) (s : State) : (acceptCommand w s).ctrl = s.ctrl := rfl
@[simp] theorem acceptCommand_cmd (w : Word) (s : State) : (acceptCommand w s).cmd = w := rfl
@[simp] theorem acceptCommand_status (w : Word) (s : State) : (acceptCommand w s).status = { s.status with done := false } := rfl
@[simp] theorem acceptCommand_irqEn (w : Word) (s : State) : (acceptCommand w s).irqEn = s.irqEn := rfl
@[simp] theorem acceptCommand_errCode (w : Word) (s : State) : (acceptCommand w s).errCode = s.errCode := rfl
@[simp] theorem acceptCommand_errInfo (w : Word) (s : State) : (acceptCommand w s).errInfo = s.errInfo := rfl
@[simp] theorem acceptCommand_tapsA (w : Word) (s : State) : (acceptCommand w s).tapsA = s.tapsA := rfl
@[simp] theorem acceptCommand_tapsB (w : Word) (s : State) : (acceptCommand w s).tapsB = s.tapsB := rfl
@[simp] theorem acceptCommand_shifts (w : Word) (s : State) : (acceptCommand w s).shifts = s.shifts := rfl
@[simp] theorem acceptCommand_lfsr (w : Word) (s : State) : (acceptCommand w s).lfsr = s.lfsr := rfl
@[simp] theorem acceptCommand_nBits (w : Word) (s : State) : (acceptCommand w s).nBits = s.nBits := rfl
@[simp] theorem acceptCommand_bps (w : Word) (s : State) : (acceptCommand w s).bps = s.bps := rfl
@[simp] theorem acceptCommand_spc (w : Word) (s : State) : (acceptCommand w s).spc = s.spc := rfl
@[simp] theorem acceptCommand_f0 (w : Word) (s : State) : (acceptCommand w s).f0 = s.f0 := rfl
@[simp] theorem acceptCommand_phi0 (w : Word) (s : State) : (acceptCommand w s).phi0 = s.phi0 := rfl
@[simp] theorem acceptCommand_snrDb (w : Word) (s : State) : (acceptCommand w s).snrDb = s.snrDb := rfl
@[simp] theorem acceptCommand_a0 (w : Word) (s : State) : (acceptCommand w s).a0 = s.a0 := rfl
@[simp] theorem acceptCommand_bufSel (w : Word) (s : State) : (acceptCommand w s).bufSel = s.bufSel := rfl
@[simp] theorem acceptCommand_bufIndex (w : Word) (s : State) : (acceptCommand w s).bufIndex = s.bufIndex := rfl
@[simp] theorem acceptCommand_maxBits (w : Word) (s : State) : (acceptCommand w s).maxBits = s.maxBits := rfl
@[simp] theorem acceptCommand_maxSamples (w : Word) (s : State) : (acceptCommand w s).maxSamples = s.maxSamples := rfl
@[simp] theorem acceptCommand_msa (w : Word) (s : State) : (acceptCommand w s).msa = s.msa := rfl
@[simp] theorem acceptCommand_msb (w : Word) (s : State) : (acceptCommand w s).msb = s.msb := rfl
@[simp] theorem acceptCommand_gold (w : Word) (s : State) : (acceptCommand w s).gold = s.gold := rfl
@[simp] theorem acceptCommand_chip (w : Word) (s : State) : (acceptCommand w s).chip = s.chip := rfl
@[simp] theorem acceptCommand_sig (w : Word) (s : State) : (acceptCommand w s).sig = s.sig := rfl
@[simp] theorem acceptCommand_noisy (w : Word) (s : State) : (acceptCommand w s).noisy = s.noisy := rfl
@[simp] theorem acceptCommand_corr (w : Word) (s : State) : (acceptCommand w s).corr = s.corr := rfl
@[simp] theorem acceptCommand_dec (w : Word) (s : State) : (acceptCommand w s).dec = s.dec := rfl
@[simp] theorem acceptCommand_mem (w : Word) (s : State) : (acceptCommand w s).mem = s.mem := rfl
@[simp] theorem acceptCommand_pending (w : Word) (s : State) : (acceptCommand w s).pending = some w := rfl
@[simp] theorem acceptCommand_noiseState (w : Word) (s : State) : (acceptCommand w s).noiseState = s.noiseState := rfl
@[simp] theorem acceptCommand_events (w : Word) (s : State) : (acceptCommand w s).events = s.events := rfl
@[simp] theorem acceptCommand_readData (w : Word) (s : State) : (acceptCommand w s).readData = s.readData := rfl

/-! ### writeBit -/

@[simp] theorem writeBit_ctrl (k : Nat) (b : Bool) (s : State) : (writeBit s k b).ctrl = s.ctrl := rfl
@[simp] theorem writeBit_cmd (k : Nat) (b : Bool) (s : State) : (writeBit s k b).cmd = s.cmd := rfl
@[simp] theorem writeBit_status (k : Nat) (b : Bool) (s : State) : (writeBit s k b).status = s.status := rfl
@[simp] theorem writeBit_irqEn (k : Nat) (b : Bool) (s : State) : (writeBit s k b).irqEn = s.irqEn := rfl
@[simp] theorem writeBit_errCode (k : Nat) (b : Bool) (s : State) : (writeBit s k b).errCode = s.errCode := rfl
@[simp] theorem writeBit_errInfo (k : Nat) (b : Bool) (s : State) : (writeBit s k b).errInfo = s.errInfo := rfl
@[simp] theorem writeBit_tapsA (k : Nat) (b : Bool) (s : State) : (writeBit s k b).tapsA = s.tapsA := rfl
@[simp] theorem writeBit_tapsB (k : Nat) (b : Bool) (s : State) : (writeBit s k b).tapsB = s.tapsB := rfl
@[simp] theorem writeBit_shifts (k : Nat) (b : Bool) (s : State) : (writeBit s k b).shifts = s.shifts := rfl
@[simp] theorem writeBit_lfsr (k : Nat) (b : Bool) (s : State) : (writeBit s k b).lfsr = s.lfsr := rfl
@[simp] theorem writeBit_nBits (k : Nat) (b : Bool) (s : State) : (writeBit s k b).nBits = s.nBits := rfl
@[simp] theorem writeBit_bps (k : Nat) (b : Bool) (s : State) : (writeBit s k b).bps = s.bps := rfl
@[simp] theorem writeBit_spc (k : Nat) (b : Bool) (s : State) : (writeBit s k b).spc = s.spc := rfl
@[simp] theorem writeBit_f0 (k : Nat) (b : Bool) (s : State) : (writeBit s k b).f0 = s.f0 := rfl
@[simp] theorem writeBit_phi0 (k : Nat) (b : Bool) (s : State) : (writeBit s k b).phi0 = s.phi0 := rfl
@[simp] theorem writeBit_snrDb (k : Nat) (b : Bool) (s : State) : (writeBit s k b).snrDb = s.snrDb := rfl
@[simp] theorem writeBit_a0 (k : Nat) (b : Bool) (s : State) : (writeBit s k b).a0 = s.a0 := rfl
@[simp] theorem writeBit_bufSel (k : Nat) (b : Bool) (s : State) : (writeBit s k b).bufSel = s.bufSel := rfl
@[simp] theorem writeBit_bufIndex (k : Nat) (b : Bool) (s : State) : (writeBit s k b).bufIndex = s.bufIndex := rfl
@[simp] theorem writeBit_maxBits (k : Nat) (b : Bool) (s : State) : (writeBit s k b).maxBits = s.maxBits := rfl
@[simp] theorem writeBit_maxSamples (k : Nat) (b : Bool) (s : State) : (writeBit s k b).maxSamples = s.maxSamples := rfl
@[simp] theorem writeBit_msa (k : Nat) (b : Bool) (s : State) : (writeBit s k b).msa = s.msa := rfl
@[simp] theorem writeBit_msb (k : Nat) (b : Bool) (s : State) : (writeBit s k b).msb = s.msb := rfl
@[simp] theorem writeBit_gold (k : Nat) (b : Bool) (s : State) : (writeBit s k b).gold = s.gold := rfl
@[simp] theorem writeBit_chip (k : Nat) (b : Bool) (s : State) : (writeBit s k b).chip = s.chip := rfl
@[simp] theorem writeBit_sig (k : Nat) (b : Bool) (s : State) : (writeBit s k b).sig = s.sig := rfl
@[simp] theorem writeBit_noisy (k : Nat) (b : Bool) (s : State) : (writeBit s k b).noisy = s.noisy := rfl
@[simp] theorem writeBit_corr (k : Nat) (b : Bool) (s : State) : (writeBit s k b).corr = s.corr := rfl
@[simp] theorem writeBit_dec (k : Nat) (b : Bool) (s : State) : (writeBit s k b).dec = s.dec := rfl
@[simp] theorem writeBit_mem (k : Nat) (b : Bool) (s : State) : (writeBit s k b).mem = { s.mem with bits := ramWrite s.mem.bits k (BitVec.ofBool b) } := rfl
@[simp] theorem writeBit_pending (k : Nat) (b : Bool) (s : State) : (writeBit s k b).pending = s.pending := rfl
@[simp] theorem writeBit_noiseState (k : Nat) (b : Bool) (s : State) : (writeBit s k b).noiseState = s.noiseState := rfl
@[simp] theorem writeBit_events (k : Nat) (b : Bool) (s : State) : (writeBit s k b).events = s.events := rfl
@[simp] theorem writeBit_readData (k : Nat) (b : Bool) (s : State) : (writeBit s k b).readData = s.readData := rfl

/-! ### writeNraw -/

@[simp] theorem writeNraw_ctrl (k : Nat) (v : F64) (s : State) : (writeNraw s k v).ctrl = s.ctrl := rfl
@[simp] theorem writeNraw_cmd (k : Nat) (v : F64) (s : State) : (writeNraw s k v).cmd = s.cmd := rfl
@[simp] theorem writeNraw_status (k : Nat) (v : F64) (s : State) : (writeNraw s k v).status = s.status := rfl
@[simp] theorem writeNraw_irqEn (k : Nat) (v : F64) (s : State) : (writeNraw s k v).irqEn = s.irqEn := rfl
@[simp] theorem writeNraw_errCode (k : Nat) (v : F64) (s : State) : (writeNraw s k v).errCode = s.errCode := rfl
@[simp] theorem writeNraw_errInfo (k : Nat) (v : F64) (s : State) : (writeNraw s k v).errInfo = s.errInfo := rfl
@[simp] theorem writeNraw_tapsA (k : Nat) (v : F64) (s : State) : (writeNraw s k v).tapsA = s.tapsA := rfl
@[simp] theorem writeNraw_tapsB (k : Nat) (v : F64) (s : State) : (writeNraw s k v).tapsB = s.tapsB := rfl
@[simp] theorem writeNraw_shifts (k : Nat) (v : F64) (s : State) : (writeNraw s k v).shifts = s.shifts := rfl
@[simp] theorem writeNraw_lfsr (k : Nat) (v : F64) (s : State) : (writeNraw s k v).lfsr = s.lfsr := rfl
@[simp] theorem writeNraw_nBits (k : Nat) (v : F64) (s : State) : (writeNraw s k v).nBits = s.nBits := rfl
@[simp] theorem writeNraw_bps (k : Nat) (v : F64) (s : State) : (writeNraw s k v).bps = s.bps := rfl
@[simp] theorem writeNraw_spc (k : Nat) (v : F64) (s : State) : (writeNraw s k v).spc = s.spc := rfl
@[simp] theorem writeNraw_f0 (k : Nat) (v : F64) (s : State) : (writeNraw s k v).f0 = s.f0 := rfl
@[simp] theorem writeNraw_phi0 (k : Nat) (v : F64) (s : State) : (writeNraw s k v).phi0 = s.phi0 := rfl
@[simp] theorem writeNraw_snrDb (k : Nat) (v : F64) (s : State) : (writeNraw s k v).snrDb = s.snrDb := rfl
@[simp] theorem writeNraw_a0 (k : Nat) (v : F64) (s : State) : (writeNraw s k v).a0 = s.a0 := rfl
@[simp] theorem writeNraw_bufSel (k : Nat) (v : F64) (s : State) : (writeNraw s k v).bufSel = s.bufSel := rfl
@[simp] theorem writeNraw_bufIndex (k : Nat) (v : F64) (s : State) : (writeNraw s k v).bufIndex = s.bufIndex := rfl
@[simp] theorem writeNraw_maxBits (k : Nat) (v : F64) (s : State) : (writeNraw s k v).maxBits = s.maxBits := rfl
@[simp] theorem writeNraw_maxSamples (k : Nat) (v : F64) (s : State) : (writeNraw s k v).maxSamples = s.maxSamples := rfl
@[simp] theorem writeNraw_msa (k : Nat) (v : F64) (s : State) : (writeNraw s k v).msa = s.msa := rfl
@[simp] theorem writeNraw_msb (k : Nat) (v : F64) (s : State) : (writeNraw s k v).msb = s.msb := rfl
@[simp] theorem writeNraw_gold (k : Nat) (v : F64) (s : State) : (writeNraw s k v).gold = s.gold := rfl
@[simp] theorem writeNraw_chip (k : Nat) (v : F64) (s : State) : (writeNraw s k v).chip = s.chip := rfl
@[simp] theorem writeNraw_sig (k : Nat) (v : F64) (s : State) : (writeNraw s k v).sig = s.sig := rfl
@[simp] theorem writeNraw_noisy (k : Nat) (v : F64) (s : State) : (writeNraw s k v).noisy = s.noisy := rfl
@[simp] theorem writeNraw_corr (k : Nat) (v : F64) (s : State) : (writeNraw s k v).corr = s.corr := rfl
@[simp] theorem writeNraw_dec (k : Nat) (v : F64) (s : State) : (writeNraw s k v).dec = s.dec := rfl
@[simp] theorem writeNraw_mem (k : Nat) (v : F64) (s : State) : (writeNraw s k v).mem = { s.mem with nraw := ramWrite s.mem.nraw k v } := rfl
@[simp] theorem writeNraw_pending (k : Nat) (v : F64) (s : State) : (writeNraw s k v).pending = s.pending := rfl
@[simp] theorem writeNraw_noiseState (k : Nat) (v : F64) (s : State) : (writeNraw s k v).noiseState = s.noiseState := rfl
@[simp] theorem writeNraw_events (k : Nat) (v : F64) (s : State) : (writeNraw s k v).events = s.events := rfl
@[simp] theorem writeNraw_readData (k : Nat) (v : F64) (s : State) : (writeNraw s k v).readData = s.readData := rfl

/-! ### softReset and hardReset -/

@[simp] theorem resetWith_noiseState (n : Nat) (s : State) : (resetWith n s).noiseState = n := rfl
@[simp] theorem resetWith_maxBits (n : Nat) (s : State) : (resetWith n s).maxBits = s.maxBits := rfl
@[simp] theorem resetWith_maxSamples (n : Nat) (s : State) :
    (resetWith n s).maxSamples = s.maxSamples := rfl
@[simp] theorem resetWith_events (n : Nat) (s : State) : (resetWith n s).events = s.events := rfl
@[simp] theorem resetWith_readData (n : Nat) (s : State) :
    (resetWith n s).readData = s.readData := rfl
@[simp] theorem resetWith_pending (n : Nat) (s : State) : (resetWith n s).pending = none := rfl
@[simp] theorem resetWith_mem (n : Nat) (s : State) : (resetWith n s).mem = ⟨[], []⟩ := rfl

/-! ### invalidate .msaV -/

/-- Everything that clearing msaV clears (R49). -/
theorem invalidate_msaV (s : State) :
    invalidate .msaV s =
      { s with
        msa := MseqBank.empty
        gold := GoldBank.empty
        chip := ChipBank.empty
        sig := SigBank.empty
        noisy := NoiseBank.empty
        corr := CorrBank.empty
        dec := DecBank.empty } := rfl

@[simp] theorem invalidate_msaV_ctrl (s : State) : (invalidate .msaV s).ctrl = s.ctrl := rfl
@[simp] theorem invalidate_msaV_cmd (s : State) : (invalidate .msaV s).cmd = s.cmd := rfl
@[simp] theorem invalidate_msaV_status (s : State) : (invalidate .msaV s).status = s.status := rfl
@[simp] theorem invalidate_msaV_irqEn (s : State) : (invalidate .msaV s).irqEn = s.irqEn := rfl
@[simp] theorem invalidate_msaV_errCode (s : State) :
    (invalidate .msaV s).errCode = s.errCode := rfl
@[simp] theorem invalidate_msaV_errInfo (s : State) :
    (invalidate .msaV s).errInfo = s.errInfo := rfl
@[simp] theorem invalidate_msaV_tapsA (s : State) : (invalidate .msaV s).tapsA = s.tapsA := rfl
@[simp] theorem invalidate_msaV_tapsB (s : State) : (invalidate .msaV s).tapsB = s.tapsB := rfl
@[simp] theorem invalidate_msaV_shifts (s : State) : (invalidate .msaV s).shifts = s.shifts := rfl
@[simp] theorem invalidate_msaV_lfsr (s : State) : (invalidate .msaV s).lfsr = s.lfsr := rfl
@[simp] theorem invalidate_msaV_nBits (s : State) : (invalidate .msaV s).nBits = s.nBits := rfl
@[simp] theorem invalidate_msaV_bps (s : State) : (invalidate .msaV s).bps = s.bps := rfl
@[simp] theorem invalidate_msaV_spc (s : State) : (invalidate .msaV s).spc = s.spc := rfl
@[simp] theorem invalidate_msaV_f0 (s : State) : (invalidate .msaV s).f0 = s.f0 := rfl
@[simp] theorem invalidate_msaV_phi0 (s : State) : (invalidate .msaV s).phi0 = s.phi0 := rfl
@[simp] theorem invalidate_msaV_snrDb (s : State) : (invalidate .msaV s).snrDb = s.snrDb := rfl
@[simp] theorem invalidate_msaV_a0 (s : State) : (invalidate .msaV s).a0 = s.a0 := rfl
@[simp] theorem invalidate_msaV_bufSel (s : State) : (invalidate .msaV s).bufSel = s.bufSel := rfl
@[simp] theorem invalidate_msaV_bufIndex (s : State) :
    (invalidate .msaV s).bufIndex = s.bufIndex := rfl
@[simp] theorem invalidate_msaV_maxBits (s : State) :
    (invalidate .msaV s).maxBits = s.maxBits := rfl
@[simp] theorem invalidate_msaV_maxSamples (s : State) :
    (invalidate .msaV s).maxSamples = s.maxSamples := rfl
@[simp] theorem invalidate_msaV_msa (s : State) : (invalidate .msaV s).msa = MseqBank.empty := rfl
@[simp] theorem invalidate_msaV_msb (s : State) : (invalidate .msaV s).msb = s.msb := rfl
@[simp] theorem invalidate_msaV_gold (s : State) : (invalidate .msaV s).gold = GoldBank.empty := rfl
@[simp] theorem invalidate_msaV_chip (s : State) : (invalidate .msaV s).chip = ChipBank.empty := rfl
@[simp] theorem invalidate_msaV_sig (s : State) : (invalidate .msaV s).sig = SigBank.empty := rfl
@[simp] theorem invalidate_msaV_noisy (s : State) :
    (invalidate .msaV s).noisy = NoiseBank.empty := rfl
@[simp] theorem invalidate_msaV_corr (s : State) : (invalidate .msaV s).corr = CorrBank.empty := rfl
@[simp] theorem invalidate_msaV_dec (s : State) : (invalidate .msaV s).dec = DecBank.empty := rfl
@[simp] theorem invalidate_msaV_mem (s : State) : (invalidate .msaV s).mem = s.mem := rfl
@[simp] theorem invalidate_msaV_pending (s : State) :
    (invalidate .msaV s).pending = s.pending := rfl
@[simp] theorem invalidate_msaV_noiseState (s : State) :
    (invalidate .msaV s).noiseState = s.noiseState := rfl
@[simp] theorem invalidate_msaV_events (s : State) : (invalidate .msaV s).events = s.events := rfl
@[simp] theorem invalidate_msaV_readData (s : State) :
    (invalidate .msaV s).readData = s.readData := rfl

/-! ### invalidate .msbV -/

/-- Everything that clearing msbV clears (R49). -/
theorem invalidate_msbV (s : State) :
    invalidate .msbV s =
      { s with
        msb := MseqBank.empty
        gold := GoldBank.empty
        chip := ChipBank.empty
        sig := SigBank.empty
        noisy := NoiseBank.empty
        corr := CorrBank.empty
        dec := DecBank.empty } := rfl

@[simp] theorem invalidate_msbV_ctrl (s : State) : (invalidate .msbV s).ctrl = s.ctrl := rfl
@[simp] theorem invalidate_msbV_cmd (s : State) : (invalidate .msbV s).cmd = s.cmd := rfl
@[simp] theorem invalidate_msbV_status (s : State) : (invalidate .msbV s).status = s.status := rfl
@[simp] theorem invalidate_msbV_irqEn (s : State) : (invalidate .msbV s).irqEn = s.irqEn := rfl
@[simp] theorem invalidate_msbV_errCode (s : State) :
    (invalidate .msbV s).errCode = s.errCode := rfl
@[simp] theorem invalidate_msbV_errInfo (s : State) :
    (invalidate .msbV s).errInfo = s.errInfo := rfl
@[simp] theorem invalidate_msbV_tapsA (s : State) : (invalidate .msbV s).tapsA = s.tapsA := rfl
@[simp] theorem invalidate_msbV_tapsB (s : State) : (invalidate .msbV s).tapsB = s.tapsB := rfl
@[simp] theorem invalidate_msbV_shifts (s : State) : (invalidate .msbV s).shifts = s.shifts := rfl
@[simp] theorem invalidate_msbV_lfsr (s : State) : (invalidate .msbV s).lfsr = s.lfsr := rfl
@[simp] theorem invalidate_msbV_nBits (s : State) : (invalidate .msbV s).nBits = s.nBits := rfl
@[simp] theorem invalidate_msbV_bps (s : State) : (invalidate .msbV s).bps = s.bps := rfl
@[simp] theorem invalidate_msbV_spc (s : State) : (invalidate .msbV s).spc = s.spc := rfl
@[simp] theorem invalidate_msbV_f0 (s : State) : (invalidate .msbV s).f0 = s.f0 := rfl
@[simp] theorem invalidate_msbV_phi0 (s : State) : (invalidate .msbV s).phi0 = s.phi0 := rfl
@[simp] theorem invalidate_msbV_snrDb (s : State) : (invalidate .msbV s).snrDb = s.snrDb := rfl
@[simp] theorem invalidate_msbV_a0 (s : State) : (invalidate .msbV s).a0 = s.a0 := rfl
@[simp] theorem invalidate_msbV_bufSel (s : State) : (invalidate .msbV s).bufSel = s.bufSel := rfl
@[simp] theorem invalidate_msbV_bufIndex (s : State) :
    (invalidate .msbV s).bufIndex = s.bufIndex := rfl
@[simp] theorem invalidate_msbV_maxBits (s : State) :
    (invalidate .msbV s).maxBits = s.maxBits := rfl
@[simp] theorem invalidate_msbV_maxSamples (s : State) :
    (invalidate .msbV s).maxSamples = s.maxSamples := rfl
@[simp] theorem invalidate_msbV_msa (s : State) : (invalidate .msbV s).msa = s.msa := rfl
@[simp] theorem invalidate_msbV_msb (s : State) : (invalidate .msbV s).msb = MseqBank.empty := rfl
@[simp] theorem invalidate_msbV_gold (s : State) : (invalidate .msbV s).gold = GoldBank.empty := rfl
@[simp] theorem invalidate_msbV_chip (s : State) : (invalidate .msbV s).chip = ChipBank.empty := rfl
@[simp] theorem invalidate_msbV_sig (s : State) : (invalidate .msbV s).sig = SigBank.empty := rfl
@[simp] theorem invalidate_msbV_noisy (s : State) :
    (invalidate .msbV s).noisy = NoiseBank.empty := rfl
@[simp] theorem invalidate_msbV_corr (s : State) : (invalidate .msbV s).corr = CorrBank.empty := rfl
@[simp] theorem invalidate_msbV_dec (s : State) : (invalidate .msbV s).dec = DecBank.empty := rfl
@[simp] theorem invalidate_msbV_mem (s : State) : (invalidate .msbV s).mem = s.mem := rfl
@[simp] theorem invalidate_msbV_pending (s : State) :
    (invalidate .msbV s).pending = s.pending := rfl
@[simp] theorem invalidate_msbV_noiseState (s : State) :
    (invalidate .msbV s).noiseState = s.noiseState := rfl
@[simp] theorem invalidate_msbV_events (s : State) : (invalidate .msbV s).events = s.events := rfl
@[simp] theorem invalidate_msbV_readData (s : State) :
    (invalidate .msbV s).readData = s.readData := rfl

/-! ### invalidate .goldV -/

/-- Everything that clearing goldV clears (R49). -/
theorem invalidate_goldV (s : State) :
    invalidate .goldV s =
      { s with
        gold := GoldBank.empty
        chip := ChipBank.empty
        sig := SigBank.empty
        noisy := NoiseBank.empty
        corr := CorrBank.empty
        dec := DecBank.empty } := rfl

@[simp] theorem invalidate_goldV_ctrl (s : State) : (invalidate .goldV s).ctrl = s.ctrl := rfl
@[simp] theorem invalidate_goldV_cmd (s : State) : (invalidate .goldV s).cmd = s.cmd := rfl
@[simp] theorem invalidate_goldV_status (s : State) : (invalidate .goldV s).status = s.status := rfl
@[simp] theorem invalidate_goldV_irqEn (s : State) : (invalidate .goldV s).irqEn = s.irqEn := rfl
@[simp] theorem invalidate_goldV_errCode (s : State) :
    (invalidate .goldV s).errCode = s.errCode := rfl
@[simp] theorem invalidate_goldV_errInfo (s : State) :
    (invalidate .goldV s).errInfo = s.errInfo := rfl
@[simp] theorem invalidate_goldV_tapsA (s : State) : (invalidate .goldV s).tapsA = s.tapsA := rfl
@[simp] theorem invalidate_goldV_tapsB (s : State) : (invalidate .goldV s).tapsB = s.tapsB := rfl
@[simp] theorem invalidate_goldV_shifts (s : State) : (invalidate .goldV s).shifts = s.shifts := rfl
@[simp] theorem invalidate_goldV_lfsr (s : State) : (invalidate .goldV s).lfsr = s.lfsr := rfl
@[simp] theorem invalidate_goldV_nBits (s : State) : (invalidate .goldV s).nBits = s.nBits := rfl
@[simp] theorem invalidate_goldV_bps (s : State) : (invalidate .goldV s).bps = s.bps := rfl
@[simp] theorem invalidate_goldV_spc (s : State) : (invalidate .goldV s).spc = s.spc := rfl
@[simp] theorem invalidate_goldV_f0 (s : State) : (invalidate .goldV s).f0 = s.f0 := rfl
@[simp] theorem invalidate_goldV_phi0 (s : State) : (invalidate .goldV s).phi0 = s.phi0 := rfl
@[simp] theorem invalidate_goldV_snrDb (s : State) : (invalidate .goldV s).snrDb = s.snrDb := rfl
@[simp] theorem invalidate_goldV_a0 (s : State) : (invalidate .goldV s).a0 = s.a0 := rfl
@[simp] theorem invalidate_goldV_bufSel (s : State) : (invalidate .goldV s).bufSel = s.bufSel := rfl
@[simp] theorem invalidate_goldV_bufIndex (s : State) :
    (invalidate .goldV s).bufIndex = s.bufIndex := rfl
@[simp] theorem invalidate_goldV_maxBits (s : State) :
    (invalidate .goldV s).maxBits = s.maxBits := rfl
@[simp] theorem invalidate_goldV_maxSamples (s : State) :
    (invalidate .goldV s).maxSamples = s.maxSamples := rfl
@[simp] theorem invalidate_goldV_msa (s : State) : (invalidate .goldV s).msa = s.msa := rfl
@[simp] theorem invalidate_goldV_msb (s : State) : (invalidate .goldV s).msb = s.msb := rfl
@[simp] theorem invalidate_goldV_gold (s : State) :
    (invalidate .goldV s).gold = GoldBank.empty := rfl
@[simp] theorem invalidate_goldV_chip (s : State) :
    (invalidate .goldV s).chip = ChipBank.empty := rfl
@[simp] theorem invalidate_goldV_sig (s : State) : (invalidate .goldV s).sig = SigBank.empty := rfl
@[simp] theorem invalidate_goldV_noisy (s : State) :
    (invalidate .goldV s).noisy = NoiseBank.empty := rfl
@[simp] theorem invalidate_goldV_corr (s : State) :
    (invalidate .goldV s).corr = CorrBank.empty := rfl
@[simp] theorem invalidate_goldV_dec (s : State) : (invalidate .goldV s).dec = DecBank.empty := rfl
@[simp] theorem invalidate_goldV_mem (s : State) : (invalidate .goldV s).mem = s.mem := rfl
@[simp] theorem invalidate_goldV_pending (s : State) :
    (invalidate .goldV s).pending = s.pending := rfl
@[simp] theorem invalidate_goldV_noiseState (s : State) :
    (invalidate .goldV s).noiseState = s.noiseState := rfl
@[simp] theorem invalidate_goldV_events (s : State) : (invalidate .goldV s).events = s.events := rfl
@[simp] theorem invalidate_goldV_readData (s : State) :
    (invalidate .goldV s).readData = s.readData := rfl

/-! ### invalidate .chipV -/

/-- Everything that clearing chipV clears (R49). -/
theorem invalidate_chipV (s : State) :
    invalidate .chipV s =
      { s with
        chip := ChipBank.empty
        sig := SigBank.empty
        noisy := NoiseBank.empty
        corr := CorrBank.empty
        dec := DecBank.empty } := rfl

@[simp] theorem invalidate_chipV_ctrl (s : State) : (invalidate .chipV s).ctrl = s.ctrl := rfl
@[simp] theorem invalidate_chipV_cmd (s : State) : (invalidate .chipV s).cmd = s.cmd := rfl
@[simp] theorem invalidate_chipV_status (s : State) : (invalidate .chipV s).status = s.status := rfl
@[simp] theorem invalidate_chipV_irqEn (s : State) : (invalidate .chipV s).irqEn = s.irqEn := rfl
@[simp] theorem invalidate_chipV_errCode (s : State) :
    (invalidate .chipV s).errCode = s.errCode := rfl
@[simp] theorem invalidate_chipV_errInfo (s : State) :
    (invalidate .chipV s).errInfo = s.errInfo := rfl
@[simp] theorem invalidate_chipV_tapsA (s : State) : (invalidate .chipV s).tapsA = s.tapsA := rfl
@[simp] theorem invalidate_chipV_tapsB (s : State) : (invalidate .chipV s).tapsB = s.tapsB := rfl
@[simp] theorem invalidate_chipV_shifts (s : State) : (invalidate .chipV s).shifts = s.shifts := rfl
@[simp] theorem invalidate_chipV_lfsr (s : State) : (invalidate .chipV s).lfsr = s.lfsr := rfl
@[simp] theorem invalidate_chipV_nBits (s : State) : (invalidate .chipV s).nBits = s.nBits := rfl
@[simp] theorem invalidate_chipV_bps (s : State) : (invalidate .chipV s).bps = s.bps := rfl
@[simp] theorem invalidate_chipV_spc (s : State) : (invalidate .chipV s).spc = s.spc := rfl
@[simp] theorem invalidate_chipV_f0 (s : State) : (invalidate .chipV s).f0 = s.f0 := rfl
@[simp] theorem invalidate_chipV_phi0 (s : State) : (invalidate .chipV s).phi0 = s.phi0 := rfl
@[simp] theorem invalidate_chipV_snrDb (s : State) : (invalidate .chipV s).snrDb = s.snrDb := rfl
@[simp] theorem invalidate_chipV_a0 (s : State) : (invalidate .chipV s).a0 = s.a0 := rfl
@[simp] theorem invalidate_chipV_bufSel (s : State) : (invalidate .chipV s).bufSel = s.bufSel := rfl
@[simp] theorem invalidate_chipV_bufIndex (s : State) :
    (invalidate .chipV s).bufIndex = s.bufIndex := rfl
@[simp] theorem invalidate_chipV_maxBits (s : State) :
    (invalidate .chipV s).maxBits = s.maxBits := rfl
@[simp] theorem invalidate_chipV_maxSamples (s : State) :
    (invalidate .chipV s).maxSamples = s.maxSamples := rfl
@[simp] theorem invalidate_chipV_msa (s : State) : (invalidate .chipV s).msa = s.msa := rfl
@[simp] theorem invalidate_chipV_msb (s : State) : (invalidate .chipV s).msb = s.msb := rfl
@[simp] theorem invalidate_chipV_gold (s : State) : (invalidate .chipV s).gold = s.gold := rfl
@[simp] theorem invalidate_chipV_chip (s : State) :
    (invalidate .chipV s).chip = ChipBank.empty := rfl
@[simp] theorem invalidate_chipV_sig (s : State) : (invalidate .chipV s).sig = SigBank.empty := rfl
@[simp] theorem invalidate_chipV_noisy (s : State) :
    (invalidate .chipV s).noisy = NoiseBank.empty := rfl
@[simp] theorem invalidate_chipV_corr (s : State) :
    (invalidate .chipV s).corr = CorrBank.empty := rfl
@[simp] theorem invalidate_chipV_dec (s : State) : (invalidate .chipV s).dec = DecBank.empty := rfl
@[simp] theorem invalidate_chipV_mem (s : State) : (invalidate .chipV s).mem = s.mem := rfl
@[simp] theorem invalidate_chipV_pending (s : State) :
    (invalidate .chipV s).pending = s.pending := rfl
@[simp] theorem invalidate_chipV_noiseState (s : State) :
    (invalidate .chipV s).noiseState = s.noiseState := rfl
@[simp] theorem invalidate_chipV_events (s : State) : (invalidate .chipV s).events = s.events := rfl
@[simp] theorem invalidate_chipV_readData (s : State) :
    (invalidate .chipV s).readData = s.readData := rfl

/-! ### invalidate .sigV -/

/-- Everything that clearing sigV clears (R49). -/
theorem invalidate_sigV (s : State) :
    invalidate .sigV s =
      { s with
        sig := SigBank.empty
        noisy := NoiseBank.empty
        corr := CorrBank.empty
        dec := DecBank.empty } := rfl

@[simp] theorem invalidate_sigV_ctrl (s : State) : (invalidate .sigV s).ctrl = s.ctrl := rfl
@[simp] theorem invalidate_sigV_cmd (s : State) : (invalidate .sigV s).cmd = s.cmd := rfl
@[simp] theorem invalidate_sigV_status (s : State) : (invalidate .sigV s).status = s.status := rfl
@[simp] theorem invalidate_sigV_irqEn (s : State) : (invalidate .sigV s).irqEn = s.irqEn := rfl
@[simp] theorem invalidate_sigV_errCode (s : State) :
    (invalidate .sigV s).errCode = s.errCode := rfl
@[simp] theorem invalidate_sigV_errInfo (s : State) :
    (invalidate .sigV s).errInfo = s.errInfo := rfl
@[simp] theorem invalidate_sigV_tapsA (s : State) : (invalidate .sigV s).tapsA = s.tapsA := rfl
@[simp] theorem invalidate_sigV_tapsB (s : State) : (invalidate .sigV s).tapsB = s.tapsB := rfl
@[simp] theorem invalidate_sigV_shifts (s : State) : (invalidate .sigV s).shifts = s.shifts := rfl
@[simp] theorem invalidate_sigV_lfsr (s : State) : (invalidate .sigV s).lfsr = s.lfsr := rfl
@[simp] theorem invalidate_sigV_nBits (s : State) : (invalidate .sigV s).nBits = s.nBits := rfl
@[simp] theorem invalidate_sigV_bps (s : State) : (invalidate .sigV s).bps = s.bps := rfl
@[simp] theorem invalidate_sigV_spc (s : State) : (invalidate .sigV s).spc = s.spc := rfl
@[simp] theorem invalidate_sigV_f0 (s : State) : (invalidate .sigV s).f0 = s.f0 := rfl
@[simp] theorem invalidate_sigV_phi0 (s : State) : (invalidate .sigV s).phi0 = s.phi0 := rfl
@[simp] theorem invalidate_sigV_snrDb (s : State) : (invalidate .sigV s).snrDb = s.snrDb := rfl
@[simp] theorem invalidate_sigV_a0 (s : State) : (invalidate .sigV s).a0 = s.a0 := rfl
@[simp] theorem invalidate_sigV_bufSel (s : State) : (invalidate .sigV s).bufSel = s.bufSel := rfl
@[simp] theorem invalidate_sigV_bufIndex (s : State) :
    (invalidate .sigV s).bufIndex = s.bufIndex := rfl
@[simp] theorem invalidate_sigV_maxBits (s : State) :
    (invalidate .sigV s).maxBits = s.maxBits := rfl
@[simp] theorem invalidate_sigV_maxSamples (s : State) :
    (invalidate .sigV s).maxSamples = s.maxSamples := rfl
@[simp] theorem invalidate_sigV_msa (s : State) : (invalidate .sigV s).msa = s.msa := rfl
@[simp] theorem invalidate_sigV_msb (s : State) : (invalidate .sigV s).msb = s.msb := rfl
@[simp] theorem invalidate_sigV_gold (s : State) : (invalidate .sigV s).gold = s.gold := rfl
@[simp] theorem invalidate_sigV_chip (s : State) : (invalidate .sigV s).chip = s.chip := rfl
@[simp] theorem invalidate_sigV_sig (s : State) : (invalidate .sigV s).sig = SigBank.empty := rfl
@[simp] theorem invalidate_sigV_noisy (s : State) :
    (invalidate .sigV s).noisy = NoiseBank.empty := rfl
@[simp] theorem invalidate_sigV_corr (s : State) : (invalidate .sigV s).corr = CorrBank.empty := rfl
@[simp] theorem invalidate_sigV_dec (s : State) : (invalidate .sigV s).dec = DecBank.empty := rfl
@[simp] theorem invalidate_sigV_mem (s : State) : (invalidate .sigV s).mem = s.mem := rfl
@[simp] theorem invalidate_sigV_pending (s : State) :
    (invalidate .sigV s).pending = s.pending := rfl
@[simp] theorem invalidate_sigV_noiseState (s : State) :
    (invalidate .sigV s).noiseState = s.noiseState := rfl
@[simp] theorem invalidate_sigV_events (s : State) : (invalidate .sigV s).events = s.events := rfl
@[simp] theorem invalidate_sigV_readData (s : State) :
    (invalidate .sigV s).readData = s.readData := rfl

/-! ### invalidate .rxNoisy -/

/-- Everything that clearing rxNoisy clears (R49). -/
theorem invalidate_rxNoisy (s : State) :
    invalidate .rxNoisy s =
      { s with
        noisy := NoiseBank.empty
        corr := CorrBank.empty
        dec := DecBank.empty } := rfl

@[simp] theorem invalidate_rxNoisy_ctrl (s : State) : (invalidate .rxNoisy s).ctrl = s.ctrl := rfl
@[simp] theorem invalidate_rxNoisy_cmd (s : State) : (invalidate .rxNoisy s).cmd = s.cmd := rfl
@[simp] theorem invalidate_rxNoisy_status (s : State) :
    (invalidate .rxNoisy s).status = s.status := rfl
@[simp] theorem invalidate_rxNoisy_irqEn (s : State) :
    (invalidate .rxNoisy s).irqEn = s.irqEn := rfl
@[simp] theorem invalidate_rxNoisy_errCode (s : State) :
    (invalidate .rxNoisy s).errCode = s.errCode := rfl
@[simp] theorem invalidate_rxNoisy_errInfo (s : State) :
    (invalidate .rxNoisy s).errInfo = s.errInfo := rfl
@[simp] theorem invalidate_rxNoisy_tapsA (s : State) :
    (invalidate .rxNoisy s).tapsA = s.tapsA := rfl
@[simp] theorem invalidate_rxNoisy_tapsB (s : State) :
    (invalidate .rxNoisy s).tapsB = s.tapsB := rfl
@[simp] theorem invalidate_rxNoisy_shifts (s : State) :
    (invalidate .rxNoisy s).shifts = s.shifts := rfl
@[simp] theorem invalidate_rxNoisy_lfsr (s : State) : (invalidate .rxNoisy s).lfsr = s.lfsr := rfl
@[simp] theorem invalidate_rxNoisy_nBits (s : State) :
    (invalidate .rxNoisy s).nBits = s.nBits := rfl
@[simp] theorem invalidate_rxNoisy_bps (s : State) : (invalidate .rxNoisy s).bps = s.bps := rfl
@[simp] theorem invalidate_rxNoisy_spc (s : State) : (invalidate .rxNoisy s).spc = s.spc := rfl
@[simp] theorem invalidate_rxNoisy_f0 (s : State) : (invalidate .rxNoisy s).f0 = s.f0 := rfl
@[simp] theorem invalidate_rxNoisy_phi0 (s : State) : (invalidate .rxNoisy s).phi0 = s.phi0 := rfl
@[simp] theorem invalidate_rxNoisy_snrDb (s : State) :
    (invalidate .rxNoisy s).snrDb = s.snrDb := rfl
@[simp] theorem invalidate_rxNoisy_a0 (s : State) : (invalidate .rxNoisy s).a0 = s.a0 := rfl
@[simp] theorem invalidate_rxNoisy_bufSel (s : State) :
    (invalidate .rxNoisy s).bufSel = s.bufSel := rfl
@[simp] theorem invalidate_rxNoisy_bufIndex (s : State) :
    (invalidate .rxNoisy s).bufIndex = s.bufIndex := rfl
@[simp] theorem invalidate_rxNoisy_maxBits (s : State) :
    (invalidate .rxNoisy s).maxBits = s.maxBits := rfl
@[simp] theorem invalidate_rxNoisy_maxSamples (s : State) :
    (invalidate .rxNoisy s).maxSamples = s.maxSamples := rfl
@[simp] theorem invalidate_rxNoisy_msa (s : State) : (invalidate .rxNoisy s).msa = s.msa := rfl
@[simp] theorem invalidate_rxNoisy_msb (s : State) : (invalidate .rxNoisy s).msb = s.msb := rfl
@[simp] theorem invalidate_rxNoisy_gold (s : State) : (invalidate .rxNoisy s).gold = s.gold := rfl
@[simp] theorem invalidate_rxNoisy_chip (s : State) : (invalidate .rxNoisy s).chip = s.chip := rfl
@[simp] theorem invalidate_rxNoisy_sig (s : State) : (invalidate .rxNoisy s).sig = s.sig := rfl
@[simp] theorem invalidate_rxNoisy_noisy (s : State) :
    (invalidate .rxNoisy s).noisy = NoiseBank.empty := rfl
@[simp] theorem invalidate_rxNoisy_corr (s : State) :
    (invalidate .rxNoisy s).corr = CorrBank.empty := rfl
@[simp] theorem invalidate_rxNoisy_dec (s : State) :
    (invalidate .rxNoisy s).dec = DecBank.empty := rfl
@[simp] theorem invalidate_rxNoisy_mem (s : State) : (invalidate .rxNoisy s).mem = s.mem := rfl
@[simp] theorem invalidate_rxNoisy_pending (s : State) :
    (invalidate .rxNoisy s).pending = s.pending := rfl
@[simp] theorem invalidate_rxNoisy_noiseState (s : State) :
    (invalidate .rxNoisy s).noiseState = s.noiseState := rfl
@[simp] theorem invalidate_rxNoisy_events (s : State) :
    (invalidate .rxNoisy s).events = s.events := rfl
@[simp] theorem invalidate_rxNoisy_readData (s : State) :
    (invalidate .rxNoisy s).readData = s.readData := rfl

/-! ### invalidate .corrV -/

/-- Everything that clearing corrV clears (R49). -/
theorem invalidate_corrV (s : State) :
    invalidate .corrV s =
      { s with
        corr := CorrBank.empty
        dec := DecBank.empty } := rfl

@[simp] theorem invalidate_corrV_ctrl (s : State) : (invalidate .corrV s).ctrl = s.ctrl := rfl
@[simp] theorem invalidate_corrV_cmd (s : State) : (invalidate .corrV s).cmd = s.cmd := rfl
@[simp] theorem invalidate_corrV_status (s : State) : (invalidate .corrV s).status = s.status := rfl
@[simp] theorem invalidate_corrV_irqEn (s : State) : (invalidate .corrV s).irqEn = s.irqEn := rfl
@[simp] theorem invalidate_corrV_errCode (s : State) :
    (invalidate .corrV s).errCode = s.errCode := rfl
@[simp] theorem invalidate_corrV_errInfo (s : State) :
    (invalidate .corrV s).errInfo = s.errInfo := rfl
@[simp] theorem invalidate_corrV_tapsA (s : State) : (invalidate .corrV s).tapsA = s.tapsA := rfl
@[simp] theorem invalidate_corrV_tapsB (s : State) : (invalidate .corrV s).tapsB = s.tapsB := rfl
@[simp] theorem invalidate_corrV_shifts (s : State) : (invalidate .corrV s).shifts = s.shifts := rfl
@[simp] theorem invalidate_corrV_lfsr (s : State) : (invalidate .corrV s).lfsr = s.lfsr := rfl
@[simp] theorem invalidate_corrV_nBits (s : State) : (invalidate .corrV s).nBits = s.nBits := rfl
@[simp] theorem invalidate_corrV_bps (s : State) : (invalidate .corrV s).bps = s.bps := rfl
@[simp] theorem invalidate_corrV_spc (s : State) : (invalidate .corrV s).spc = s.spc := rfl
@[simp] theorem invalidate_corrV_f0 (s : State) : (invalidate .corrV s).f0 = s.f0 := rfl
@[simp] theorem invalidate_corrV_phi0 (s : State) : (invalidate .corrV s).phi0 = s.phi0 := rfl
@[simp] theorem invalidate_corrV_snrDb (s : State) : (invalidate .corrV s).snrDb = s.snrDb := rfl
@[simp] theorem invalidate_corrV_a0 (s : State) : (invalidate .corrV s).a0 = s.a0 := rfl
@[simp] theorem invalidate_corrV_bufSel (s : State) : (invalidate .corrV s).bufSel = s.bufSel := rfl
@[simp] theorem invalidate_corrV_bufIndex (s : State) :
    (invalidate .corrV s).bufIndex = s.bufIndex := rfl
@[simp] theorem invalidate_corrV_maxBits (s : State) :
    (invalidate .corrV s).maxBits = s.maxBits := rfl
@[simp] theorem invalidate_corrV_maxSamples (s : State) :
    (invalidate .corrV s).maxSamples = s.maxSamples := rfl
@[simp] theorem invalidate_corrV_msa (s : State) : (invalidate .corrV s).msa = s.msa := rfl
@[simp] theorem invalidate_corrV_msb (s : State) : (invalidate .corrV s).msb = s.msb := rfl
@[simp] theorem invalidate_corrV_gold (s : State) : (invalidate .corrV s).gold = s.gold := rfl
@[simp] theorem invalidate_corrV_chip (s : State) : (invalidate .corrV s).chip = s.chip := rfl
@[simp] theorem invalidate_corrV_sig (s : State) : (invalidate .corrV s).sig = s.sig := rfl
@[simp] theorem invalidate_corrV_noisy (s : State) : (invalidate .corrV s).noisy = s.noisy := rfl
@[simp] theorem invalidate_corrV_corr (s : State) :
    (invalidate .corrV s).corr = CorrBank.empty := rfl
@[simp] theorem invalidate_corrV_dec (s : State) : (invalidate .corrV s).dec = DecBank.empty := rfl
@[simp] theorem invalidate_corrV_mem (s : State) : (invalidate .corrV s).mem = s.mem := rfl
@[simp] theorem invalidate_corrV_pending (s : State) :
    (invalidate .corrV s).pending = s.pending := rfl
@[simp] theorem invalidate_corrV_noiseState (s : State) :
    (invalidate .corrV s).noiseState = s.noiseState := rfl
@[simp] theorem invalidate_corrV_events (s : State) : (invalidate .corrV s).events = s.events := rfl
@[simp] theorem invalidate_corrV_readData (s : State) :
    (invalidate .corrV s).readData = s.readData := rfl

/-! ### invalidate .decV -/

/-- Everything that clearing decV clears (R49). -/
theorem invalidate_decV (s : State) :
    invalidate .decV s =
      { s with
        dec := DecBank.empty } := rfl

@[simp] theorem invalidate_decV_ctrl (s : State) : (invalidate .decV s).ctrl = s.ctrl := rfl
@[simp] theorem invalidate_decV_cmd (s : State) : (invalidate .decV s).cmd = s.cmd := rfl
@[simp] theorem invalidate_decV_status (s : State) : (invalidate .decV s).status = s.status := rfl
@[simp] theorem invalidate_decV_irqEn (s : State) : (invalidate .decV s).irqEn = s.irqEn := rfl
@[simp] theorem invalidate_decV_errCode (s : State) :
    (invalidate .decV s).errCode = s.errCode := rfl
@[simp] theorem invalidate_decV_errInfo (s : State) :
    (invalidate .decV s).errInfo = s.errInfo := rfl
@[simp] theorem invalidate_decV_tapsA (s : State) : (invalidate .decV s).tapsA = s.tapsA := rfl
@[simp] theorem invalidate_decV_tapsB (s : State) : (invalidate .decV s).tapsB = s.tapsB := rfl
@[simp] theorem invalidate_decV_shifts (s : State) : (invalidate .decV s).shifts = s.shifts := rfl
@[simp] theorem invalidate_decV_lfsr (s : State) : (invalidate .decV s).lfsr = s.lfsr := rfl
@[simp] theorem invalidate_decV_nBits (s : State) : (invalidate .decV s).nBits = s.nBits := rfl
@[simp] theorem invalidate_decV_bps (s : State) : (invalidate .decV s).bps = s.bps := rfl
@[simp] theorem invalidate_decV_spc (s : State) : (invalidate .decV s).spc = s.spc := rfl
@[simp] theorem invalidate_decV_f0 (s : State) : (invalidate .decV s).f0 = s.f0 := rfl
@[simp] theorem invalidate_decV_phi0 (s : State) : (invalidate .decV s).phi0 = s.phi0 := rfl
@[simp] theorem invalidate_decV_snrDb (s : State) : (invalidate .decV s).snrDb = s.snrDb := rfl
@[simp] theorem invalidate_decV_a0 (s : State) : (invalidate .decV s).a0 = s.a0 := rfl
@[simp] theorem invalidate_decV_bufSel (s : State) : (invalidate .decV s).bufSel = s.bufSel := rfl
@[simp] theorem invalidate_decV_bufIndex (s : State) :
    (invalidate .decV s).bufIndex = s.bufIndex := rfl
@[simp] theorem invalidate_decV_maxBits (s : State) :
    (invalidate .decV s).maxBits = s.maxBits := rfl
@[simp] theorem invalidate_decV_maxSamples (s : State) :
    (invalidate .decV s).maxSamples = s.maxSamples := rfl
@[simp] theorem invalidate_decV_msa (s : State) : (invalidate .decV s).msa = s.msa := rfl
@[simp] theorem invalidate_decV_msb (s : State) : (invalidate .decV s).msb = s.msb := rfl
@[simp] theorem invalidate_decV_gold (s : State) : (invalidate .decV s).gold = s.gold := rfl
@[simp] theorem invalidate_decV_chip (s : State) : (invalidate .decV s).chip = s.chip := rfl
@[simp] theorem invalidate_decV_sig (s : State) : (invalidate .decV s).sig = s.sig := rfl
@[simp] theorem invalidate_decV_noisy (s : State) : (invalidate .decV s).noisy = s.noisy := rfl
@[simp] theorem invalidate_decV_corr (s : State) : (invalidate .decV s).corr = s.corr := rfl
@[simp] theorem invalidate_decV_dec (s : State) : (invalidate .decV s).dec = DecBank.empty := rfl
@[simp] theorem invalidate_decV_mem (s : State) : (invalidate .decV s).mem = s.mem := rfl
@[simp] theorem invalidate_decV_pending (s : State) :
    (invalidate .decV s).pending = s.pending := rfl
@[simp] theorem invalidate_decV_noiseState (s : State) :
    (invalidate .decV s).noiseState = s.noiseState := rfl
@[simp] theorem invalidate_decV_events (s : State) : (invalidate .decV s).events = s.events := rfl
@[simp] theorem invalidate_decV_readData (s : State) :
    (invalidate .decV s).readData = s.readData := rfl

end Sys2Proof.Machine
end

