-- ==== Sys2Proof/Laws/Memory.lean ====
section
/-!
SUPPORT. The laws of the two RAMs: read after write, and that every operation keeps the canonical
form.
-/

namespace Sys2Proof.Machine

open Sys2Proof

@[simp] theorem ramRead_nil {w : Nat} (a : Nat) : ramRead ([] : Ram w) a = 0#w := rfl

/-- A form that holds from an address on holds from any lower one. -/
theorem ramWfFrom_mono {w : Nat} {lo lo' : Nat} (h : lo ≤ lo') :
    ∀ {m : Ram w}, ramWfFrom lo' m = true → ramWfFrom lo m = true
  | [], _ => rfl
  | (a, v) :: rest, hm => by
    simp only [ramWfFrom, Bool.and_eq_true, decide_eq_true_eq] at hm ⊢
    exact ⟨⟨h.trans hm.1.1, hm.1.2⟩, hm.2⟩

/-- An address below every listed one reads as never written. -/
theorem ramRead_below {w : Nat} :
    ∀ {m : Ram w} {lo a : Nat}, ramWfFrom lo m = true → a < lo → ramRead m a = 0#w
  | [], _, _, _, _ => rfl
  | (b, v) :: rest, lo, a, hm, ha => by
    simp only [ramWfFrom, Bool.and_eq_true, decide_eq_true_eq] at hm
    rw [ramRead, if_neg (by omega)]
    exact ramRead_below hm.2 (by omega)

/-- A write leaves every other cell alone, in any list. -/
theorem ramRead_ramWrite_other {w : Nat} {a b : Nat} (v : BitVec w) (hab : b ≠ a) :
    ∀ m : Ram w, ramRead (ramWrite m a v) b = ramRead m b
  | [] => by by_cases hv : v = 0#w <;> simp [ramWrite, ramRead, hv, hab]
  | (c, u) :: rest => by
    rw [ramWrite]
    split
    · split <;> simp [ramRead, hab]
    · split
      · rename_i hac
        subst hac
        split <;> simp [ramRead, hab]
      · simp only [ramRead, ramRead_ramWrite_other v hab rest]

/-- A read after a write to the same cell gives the value written. -/
theorem ramRead_ramWrite_same {w : Nat} {a : Nat} (v : BitVec w) :
    ∀ {m : Ram w} {lo : Nat}, ramWfFrom lo m = true → ramRead (ramWrite m a v) a = v
  | [], _, _ => by by_cases hv : v = 0#w <;> simp [ramWrite, ramRead, hv]
  | (c, u) :: rest, lo, hm => by
    have hm' := hm
    simp only [ramWfFrom, Bool.and_eq_true, decide_eq_true_eq] at hm
    rw [ramWrite]
    split
    · rename_i hac
      split
      · rename_i hv
        rw [ramRead, if_neg (by omega), ramRead_below hm.2 (by omega), hv]
      · simp [ramRead]
    · split
      · rename_i hac
        split
        · rename_i hv
          rw [ramRead_below hm.2 (by omega), hv]
        · simp [ramRead]
      · rename_i h1 h2
        rw [ramRead, if_neg h2]
        exact ramRead_ramWrite_same v hm.2

/-- A write keeps the canonical form. -/
theorem ramWrite_wfFrom {w : Nat} {a : Nat} (v : BitVec w) :
    ∀ {m : Ram w} {lo : Nat}, lo ≤ a → ramWfFrom lo m = true →
      ramWfFrom lo (ramWrite m a v) = true
  | [], lo, ha, _ => by by_cases hv : v = 0#w <;> simp [ramWrite, ramWfFrom, hv, ha]
  | (c, u) :: rest, lo, ha, hm => by
    have hm' := hm
    simp only [ramWfFrom, Bool.and_eq_true, decide_eq_true_eq] at hm
    rw [ramWrite]
    split
    · rename_i hac
      split
      · exact hm'
      · rename_i hv
        simp only [ramWfFrom, Bool.and_eq_true, decide_eq_true_eq]
        exact ⟨⟨ha, by simpa using hv⟩, ⟨by omega, hm.1.2⟩, hm.2⟩
    · split
      · rename_i hac
        subst hac
        split
        · exact ramWfFrom_mono (by omega) hm.2
        · rename_i hv
          simp only [ramWfFrom, Bool.and_eq_true, decide_eq_true_eq]
          exact ⟨⟨ha, by simpa using hv⟩, hm.2⟩
      · simp only [ramWfFrom, Bool.and_eq_true, decide_eq_true_eq]
        exact ⟨hm.1, ramWrite_wfFrom v (by omega) hm.2⟩

/-- A write keeps a RAM within a capacity that holds the cell. -/
theorem ramWrite_below {w : Nat} {a cap : Nat} (v : BitVec w) (ha : a < cap) :
    ∀ {m : Ram w}, (m.all fun c => decide (c.1 < cap)) = true →
      ((ramWrite m a v).all fun c => decide (c.1 < cap)) = true
  | [], _ => by by_cases hv : v = 0#w <;> simp [ramWrite, hv, ha]
  | (c, u) :: rest, hm => by
    simp only [List.all_cons, Bool.and_eq_true, decide_eq_true_eq] at hm
    rw [ramWrite]
    split
    · split <;> simp only [List.all_cons, Bool.and_eq_true, decide_eq_true_eq]
      · exact hm
      · exact ⟨ha, hm⟩
    · split
      · split
        · exact hm.2
        · simp only [List.all_cons, Bool.and_eq_true, decide_eq_true_eq]
          exact ⟨ha, hm.2⟩
      · simp only [List.all_cons, Bool.and_eq_true, decide_eq_true_eq]
        exact ⟨hm.1, ramWrite_below v ha hm.2⟩

/-- BITS writes keep the canonical form of both RAMs. -/
theorem writeBit_wf {s : State} (k : Nat) (b : Bool) (h : s.mem.wf = true) :
    (writeBit s k b).mem.wf = true := by
  simp only [Memory.wf, Bool.and_eq_true] at h
  simp only [writeBit_mem, Memory.wf, Bool.and_eq_true]
  exact ⟨ramWrite_wfFrom _ (Nat.zero_le k) h.1, h.2⟩

/-- NRAW writes keep the canonical form of both RAMs. -/
theorem writeNraw_wf {s : State} (k : Nat) (v : F64) (h : s.mem.wf = true) :
    (writeNraw s k v).mem.wf = true := by
  simp only [Memory.wf, Bool.and_eq_true] at h
  simp only [writeNraw_mem, Memory.wf, Bool.and_eq_true]
  exact ⟨h.1, ramWrite_wfFrom _ (Nat.zero_le k) h.2⟩

/-- The memory of the reset state is in canonical form. -/
theorem reset_mem_wf : State.reset.mem.wf = true := rfl

/-- The cell written reads the bit written. -/
theorem readBit_writeBit_same {s : State} (k : Nat) (b : Bool) (h : s.mem.wf = true) :
    readBit (writeBit s k b) k = b := by
  simp only [Memory.wf, Bool.and_eq_true] at h
  simp only [readBit, writeBit_mem, ramRead_ramWrite_same _ h.1]
  cases b <;> rfl

/-- Every other cell of BITS reads as before. -/
theorem readBit_writeBit_other {s : State} {j k : Nat} (b : Bool) (h : j ≠ k) :
    readBit (writeBit s k b) j = readBit s j := by
  simp only [readBit, writeBit_mem, ramRead_ramWrite_other _ h]

/-- The cell written reads the value written. -/
theorem readNraw_writeNraw_same {s : State} (k : Nat) (v : F64) (h : s.mem.wf = true) :
    readNraw (writeNraw s k v) k = v := by
  simp only [Memory.wf, Bool.and_eq_true] at h
  simp only [readNraw, writeNraw_mem, ramRead_ramWrite_same _ h.2]

/-- Every other cell of NRAW reads as before. -/
theorem readNraw_writeNraw_other {s : State} {j k : Nat} (v : F64) (h : j ≠ k) :
    readNraw (writeNraw s k v) j = readNraw s j := by
  simp only [readNraw, writeNraw_mem, ramRead_ramWrite_other _ h]

end Sys2Proof.Machine
end

