-- ==== Sys2Proof/Laws/Ops.lean ====
section
/-!
SUPPORT. What each shared operation can do, said once: completing a command, the pipeline's
sequencing, the stages' commits and failures, host reads and writes, and a step.
-/

namespace Sys2Proof.Machine

open Sys2Proof

/-! ### Completion -/

@[simp] theorem complete_committed (s : State) : complete (.committed s) = finish s := rfl

@[simp] theorem complete_failed (s : State) (e : CmdError) :
    complete (.failed s e) = failedWith e s := rfl

/-- The state a result ends at, before the engine's own bookkeeping. -/
def Result.state : Result → State
  | .committed s => s
  | .failed s _ => s

/-- Completion changes only the error state, DONE and pending, so any other field is the result's. -/
theorem complete_field {α : Type} (f : State → α)
    (hf : ∀ s p st ec ei,
      f { s with pending := p, status := st, errCode := ec, errInfo := ei } = f s)
    (r : Result) : f (complete r) = f r.state := by
  cases r with
  | committed s => exact hf s none { s.status with done := true } s.errCode s.errInfo
  | failed s e => exact hf s none _ _ _

/-- Every command's meaning is the completion of a result. -/
theorem exec_command (i : Instr) (h : isCommand i = true) (s : State) :
    ∃ r, exec i s = .next (complete r) := by
  cases i <;> first | exact ⟨_, rfl⟩ | simp [isCommand] at h

/-! ### The words ERR_CODE takes (R302)

One lemma per row. The kernel folds these literals only where no variable stands in the way, so each
field is rewritten first. -/

theorem errorWord_bpsZero :
    errorWord .bpsZero = 0x010401#24 := by
  rw [errorWord, show errorDetail .bpsZero = 0x01#8 from rfl,
    show errorStage .bpsZero = 0x04#8 from rfl,
    show errorClass .bpsZero = 0x01#8 from rfl]
  rfl

theorem errorWord_spcTooSmall (n : Word) :
    errorWord (.spcTooSmall n) = 0x020401#24 := by
  rw [errorWord, show errorDetail (.spcTooSmall n) = 0x02#8 from rfl,
    show errorStage (.spcTooSmall n) = 0x04#8 from rfl,
    show errorClass (.spcTooSmall n) = 0x01#8 from rfl]
  rfl

theorem errorWord_emptyBits :
    errorWord .emptyBits = 0x030301#24 := by
  rw [errorWord, show errorDetail .emptyBits = 0x03#8 from rfl,
    show errorStage .emptyBits = 0x03#8 from rfl,
    show errorClass .emptyBits = 0x01#8 from rfl]
  rfl

theorem errorWord_nBitsRange (n : Word) :
    errorWord (.nBitsRange n) = 0x040301#24 := by
  rw [errorWord, show errorDetail (.nBitsRange n) = 0x04#8 from rfl,
    show errorStage (.nBitsRange n) = 0x03#8 from rfl,
    show errorClass (.nBitsRange n) = 0x01#8 from rfl]
  rfl

theorem errorWord_shiftRange (k : Fin 4) (x : BitVec 8) :
    errorWord (.shiftRange k x) = 0x050201#24 := by
  rw [errorWord, show errorDetail (.shiftRange k x) = 0x05#8 from rfl,
    show errorStage (.shiftRange k x) = 0x02#8 from rfl,
    show errorClass (.shiftRange k x) = 0x01#8 from rfl]
  rfl

theorem errorWord_shiftDup (j k : Fin 4) :
    errorWord (.shiftDup j k) = 0x060201#24 := by
  rw [errorWord, show errorDetail (.shiftDup j k) = 0x06#8 from rfl,
    show errorStage (.shiftDup j k) = 0x02#8 from rfl,
    show errorClass (.shiftDup j k) = 0x01#8 from rfl]
  rfl

theorem errorWord_goldNotDistinct (j k : Fin 4) :
    errorWord (.goldNotDistinct j k) = 0x070201#24 := by
  rw [errorWord, show errorDetail (.goldNotDistinct j k) = 0x07#8 from rfl,
    show errorStage (.goldNotDistinct j k) = 0x02#8 from rfl,
    show errorClass (.goldNotDistinct j k) = 0x01#8 from rfl]
  rfl

theorem errorWord_samplesRange_synth (n : Nat) :
    errorWord (.samplesRange 0x04#8 n) = 0x080401#24 := by
  rw [errorWord, show errorDetail (.samplesRange 0x04#8 n) = 0x08#8 from rfl,
    show errorStage (.samplesRange 0x04#8 n) = 0x04#8 from rfl,
    show errorClass (.samplesRange 0x04#8 n) = 0x01#8 from rfl]
  rfl

theorem errorWord_samplesRange_correlate (n : Nat) :
    errorWord (.samplesRange 0x06#8 n) = 0x080601#24 := by
  rw [errorWord, show errorDetail (.samplesRange 0x06#8 n) = 0x08#8 from rfl,
    show errorStage (.samplesRange 0x06#8 n) = 0x06#8 from rfl,
    show errorClass (.samplesRange 0x06#8 n) = 0x01#8 from rfl]
  rfl

theorem errorWord_f0NonFinite (x : F64) :
    errorWord (.f0NonFinite x) = 0x090401#24 := by
  rw [errorWord, show errorDetail (.f0NonFinite x) = 0x09#8 from rfl,
    show errorStage (.f0NonFinite x) = 0x04#8 from rfl,
    show errorClass (.f0NonFinite x) = 0x01#8 from rfl]
  rfl

theorem errorWord_phi0NonFinite (x : F64) :
    errorWord (.phi0NonFinite x) = 0x0A0401#24 := by
  rw [errorWord, show errorDetail (.phi0NonFinite x) = 0x0A#8 from rfl,
    show errorStage (.phi0NonFinite x) = 0x04#8 from rfl,
    show errorClass (.phi0NonFinite x) = 0x01#8 from rfl]
  rfl

theorem errorWord_cbfLt1 (n : Int) :
    errorWord (.cbfLt1 n) = 0x010702#24 := by
  rw [errorWord, show errorDetail (.cbfLt1 n) = 0x01#8 from rfl,
    show errorStage (.cbfLt1 n) = 0x07#8 from rfl,
    show errorClass (.cbfLt1 n) = 0x02#8 from rfl]
  rfl

theorem errorWord_startEndLe0 (n : Int) :
    errorWord (.startEndLe0 n) = 0x020702#24 := by
  rw [errorWord, show errorDetail (.startEndLe0 n) = 0x02#8 from rfl,
    show errorStage (.startEndLe0 n) = 0x07#8 from rfl,
    show errorClass (.startEndLe0 n) = 0x02#8 from rfl]
  rfl

theorem errorWord_lengthMismatch (n : Nat) :
    errorWord (.lengthMismatch n) = 0x030702#24 := by
  rw [errorWord, show errorDetail (.lengthMismatch n) = 0x03#8 from rfl,
    show errorStage (.lengthMismatch n) = 0x07#8 from rfl,
    show errorClass (.lengthMismatch n) = 0x02#8 from rfl]
  rfl

theorem errorWord_noiseEnergyZero :
    errorWord .noiseEnergyZero = 0x010503#24 := by
  rw [errorWord, show errorDetail .noiseEnergyZero = 0x01#8 from rfl,
    show errorStage .noiseEnergyZero = 0x05#8 from rfl,
    show errorClass .noiseEnergyZero = 0x03#8 from rfl]
  rfl

theorem errorWord_normNonFinite (x : F64) :
    errorWord (.normNonFinite x) = 0x020503#24 := by
  rw [errorWord, show errorDetail (.normNonFinite x) = 0x02#8 from rfl,
    show errorStage (.normNonFinite x) = 0x05#8 from rfl,
    show errorClass (.normNonFinite x) = 0x03#8 from rfl]
  rfl

theorem errorWord_noiseNonFinite (k : Nat) :
    errorWord (.noiseNonFinite k) = 0x030503#24 := by
  rw [errorWord, show errorDetail (.noiseNonFinite k) = 0x03#8 from rfl,
    show errorStage (.noiseNonFinite k) = 0x05#8 from rfl,
    show errorClass (.noiseNonFinite k) = 0x03#8 from rfl]
  rfl

theorem errorWord_rxNonFinite (k : Nat) :
    errorWord (.rxNonFinite k) = 0x040503#24 := by
  rw [errorWord, show errorDetail (.rxNonFinite k) = 0x04#8 from rfl,
    show errorStage (.rxNonFinite k) = 0x05#8 from rfl,
    show errorClass (.rxNonFinite k) = 0x03#8 from rfl]
  rfl

theorem errorWord_noGold (f : BitVec 8) :
    errorWord (.noGold f) = 0x010304#24 := by
  rw [errorWord, show errorDetail (.noGold f) = 0x01#8 from rfl,
    show errorStage (.noGold f) = 0x03#8 from rfl,
    show errorClass (.noGold f) = 0x04#8 from rfl]
  rfl

theorem errorWord_noChips (f : BitVec 8) :
    errorWord (.noChips f) = 0x020404#24 := by
  rw [errorWord, show errorDetail (.noChips f) = 0x02#8 from rfl,
    show errorStage (.noChips f) = 0x04#8 from rfl,
    show errorClass (.noChips f) = 0x04#8 from rfl]
  rfl

theorem errorWord_noSignal_addNoise (f : BitVec 8) :
    errorWord (.noSignal 0x05#8 f) = 0x030504#24 := by
  rw [errorWord, show errorDetail (.noSignal 0x05#8 f) = 0x03#8 from rfl,
    show errorStage (.noSignal 0x05#8 f) = 0x05#8 from rfl,
    show errorClass (.noSignal 0x05#8 f) = 0x04#8 from rfl]
  rfl

theorem errorWord_noSignal_correlate (f : BitVec 8) :
    errorWord (.noSignal 0x06#8 f) = 0x030604#24 := by
  rw [errorWord, show errorDetail (.noSignal 0x06#8 f) = 0x03#8 from rfl,
    show errorStage (.noSignal 0x06#8 f) = 0x06#8 from rfl,
    show errorClass (.noSignal 0x06#8 f) = 0x04#8 from rfl]
  rfl

theorem errorWord_noCorr (f : BitVec 8) :
    errorWord (.noCorr f) = 0x040704#24 := by
  rw [errorWord, show errorDetail (.noCorr f) = 0x04#8 from rfl,
    show errorStage (.noCorr f) = 0x07#8 from rfl,
    show errorClass (.noCorr f) = 0x04#8 from rfl]
  rfl

/-! ### Sequencing -/

@[simp] theorem andThen_committed (s : State) (f : State → Result) :
    (Result.committed s).andThen f = f s := rfl

@[simp] theorem andThen_failed (s : State) (e : CmdError) (f : State → Result) :
    (Result.failed s e).andThen f = .failed s e := rfl

theorem andThen_eq_committed {r : Result} {f : State → Result} {t : State} :
    r.andThen f = .committed t ↔ ∃ u, r = .committed u ∧ f u = .committed t := by
  cases r <;> simp [Result.andThen]

theorem andThen_eq_failed {r : Result} {f : State → Result} {t : State} {e : CmdError} :
    r.andThen f = .failed t e ↔ r = .failed t e ∨ ∃ u, r = .committed u ∧ f u = .failed t e := by
  cases r <;> simp [Result.andThen]

/-- A property that the first result's state has and the continuation keeps holds at the end. -/
theorem andThen_sat {P : State → Prop} {r : Result} {f : State → Result}
    (hr : P r.state) (hf : ∀ s, P s → P (f s).state) : P (r.andThen f).state := by
  cases r with
  | committed s => exact hf s hr
  | failed s e => exact hr

/-! ### The stages -/

/-- What BUILD_GOLD can do (R152). -/
theorem buildGold_cases (s : State) :
    (shiftRangeError s = none ∧ shiftDupError s = none ∧ goldDupError (goldTable s) = none ∧
      buildGold s = .committed (goldCommit s)) ∨ ∃ e, buildGold s = .failed s e := by
  unfold buildGold
  split
  · exact .inr ⟨_, rfl⟩
  · rename_i h1
    split
    · exact .inr ⟨_, rfl⟩
    · rename_i h2
      split
      · exact .inr ⟨_, rfl⟩
      · rename_i h3
        exact .inl ⟨h1, h2, h3, rfl⟩

/-- What SPREAD can do (R170). -/
theorem spread_cases (s : State) :
    (s.gold.valid = true ∧ s.nBits ≠ 0#32 ∧ s.nBits.toNat ≤ s.maxBits.toNat ∧
      spread s = .committed (spreadCommit s)) ∨ ∃ e, spread s = .failed s e := by
  unfold spread
  split
  · exact .inr ⟨_, rfl⟩
  · rename_i h1
    split
    · exact .inr ⟨_, rfl⟩
    · rename_i h2
      split
      · exact .inr ⟨_, rfl⟩
      · rename_i h3
        exact .inl ⟨by simpa using h1, h2, Nat.not_lt.mp h3, rfl⟩

/-- What SYNTH can do (R180). -/
theorem synth_cases (s : State) :
    (s.chip.valid = true ∧ signalConfigError s s.chip.nChips.toNat = none ∧
      synth s = .committed (synthCommit s)) ∨ ∃ e, synth s = .failed s e := by
  unfold synth
  split
  · exact .inr ⟨_, rfl⟩
  · rename_i h1
    split
    · exact .inr ⟨_, rfl⟩
    · rename_i h2
      exact .inl ⟨by simpa using h1, h2, rfl⟩

/-- What the noise stage can do with a signal that is there (R200, R205). -/
theorem injectNoise_cases (g : List F64) (s : State) :
    (firstNonFinite g = none ∧ feq (energy g) fZero = false ∧ finite (gaussNorm g s) = true ∧
        firstNonFinite (noisyRx g (gaussNorm g s) s) = none ∧
        injectNoise g s =
          .committed (noiseCommit g (gaussNorm g s) (noisyRx g (gaussNorm g s) s) s)) ∨
      ∃ e, injectNoise g s = .failed s e := by
  unfold injectNoise
  simp only
  split
  · exact .inr ⟨_, rfl⟩
  · rename_i h1
    split
    · exact .inr ⟨_, rfl⟩
    · rename_i h2
      split
      · exact .inr ⟨_, rfl⟩
      · rename_i h3
        split
        · exact .inr ⟨_, rfl⟩
        · rename_i h4
          exact .inl ⟨h1, by simpa using h2, by simpa using h3, h4, rfl⟩

/-- What CORRELATE can do (R222). -/
theorem correlate_cases (s : State) :
    (s.sig.valid = true ∧ referenceLen s ≤ s.maxSamples.toNat ∧
      correlate s = .committed (correlateCommit s)) ∨ ∃ e, correlate s = .failed s e := by
  unfold correlate
  split
  · exact .inr ⟨_, rfl⟩
  · rename_i h1
    split
    · exact .inr ⟨_, rfl⟩
    · rename_i h2
      exact .inl ⟨by simpa using h1, Nat.not_lt.mp h2, rfl⟩

/-- What DECODE can do (R247). -/
theorem decodeStage_cases (s : State) :
    (s.corr.valid = true ∧ 1 ≤ decodeCbf s ∧ 0 < decodeStartEnd s ∧
        (decodeBits s).length = 2 * (s.chip.nChips.toNat / 63) ∧
        decodeStage s =
          .committed (decodeCommit s (decodeBits s) (decodeCbf s) (decodeStartEnd s))) ∨
      ∃ e, decodeStage s = .failed s e := by
  unfold decodeStage
  split
  · exact .inr ⟨_, rfl⟩
  · rename_i h1
    split
    · exact .inr ⟨_, rfl⟩
    · rename_i h2
      split
      · exact .inr ⟨_, rfl⟩
      · rename_i h3
        split
        · exact .inr ⟨_, rfl⟩
        · rename_i h4
          exact .inl ⟨by simpa using h1, not_lt.mp h2, not_le.mp h3, not_not.mp h4, rfl⟩

/-- A property that every stage keeps is kept by the whole pipeline, failed or not (R275). -/
theorem runPipeline_keeps {P : State → Prop}
    (hGold : ∀ s, P s → P (buildGold s).state) (hSpread : ∀ s, P s → P (spread s).state)
    (hSynth : ∀ s, P s → P (synth s).state) (hNoise : ∀ s, P s → P (addNoise s).state)
    (hCorr : ∀ s, P s → P (correlate s).state) (hDec : ∀ s, P s → P (decodeStage s).state)
    (s : State) (h : P s) : P (runPipeline s).state := by
  unfold runPipeline
  split
  · exact h
  · refine andThen_sat (andThen_sat (andThen_sat (andThen_sat (andThen_sat (hGold s h) hSpread)
      hSynth) ?_) hCorr) hDec
    intro u hu
    unfold pipelineNoise
    split
    · exact hNoise u hu
    · exact hu

/-! ### Host transactions -/

/-- A read changes the host's last read, and AERR where the access is bad; nothing else (R81). -/
theorem hostRead_cases (be : BitVec 4) (offset : BitVec 12) (s : State) :
    (∃ r v, target be offset = some r ∧ readReg s r = some v ∧
      hostRead be offset s = { s with readData := v }) ∨
    ((∀ r, target be offset = some r → readReg s r = none) ∧
      hostRead be offset s = { setAerr s with readData := 0#32 }) := by
  unfold hostRead
  cases ht : target be offset with
  | none => exact .inr ⟨by simp, rfl⟩
  | some r =>
    cases hv : readReg s r with
    | none => exact .inr ⟨by simpa using hv, by simp [hv]⟩
    | some v => exact .inl ⟨r, v, rfl, hv, by simp [hv]⟩

/-- Only the port reads can be bad accesses at a mapped offset (R76). -/
theorem readReg_isSome (s : State) (r : Reg) (h1 : r ≠ .bufDataLo) (h2 : r ≠ .bufDataHi) :
    (readReg s r).isSome = true := by
  cases r <;> first | rfl | exact absurd rfl h1 | exact absurd rfl h2

/-- What a write can do: a bad access, a soft reset, a write dropped while BUSY, or a register write
(R278, R280, R281). -/
theorem hostWrite_cases (be : BitVec 4) (offset : BitVec 12) (d : Word) (s : State) :
    (target be offset = none ∧ hostWrite be offset d s = badWrite s) ∨
    (target be offset = some .ctrl ∧ d.getLsbD 0 = true ∧
      hostWrite be offset d s = softReset s) ∨
    (∃ r, target be offset = some r ∧ busy s = true ∧ ¬ (r = .ctrl ∧ d.getLsbD 0 = true) ∧
      hostWrite be offset d s = setWerr s) ∨
    (∃ r, target be offset = some r ∧ busy s = false ∧ ¬ (r = .ctrl ∧ d.getLsbD 0 = true) ∧
      hostWrite be offset d s = writeReg r d s) := by
  unfold hostWrite acceptedWrite
  cases ht : target be offset with
  | none => exact .inl ⟨rfl, rfl⟩
  | some r =>
    by_cases hr : r = .ctrl ∧ d.getLsbD 0 = true
    · obtain ⟨rfl, hd⟩ := hr
      refine .inr (.inl ⟨rfl, hd, ?_⟩)
      cases busy s <;> simp [writeReg, writeCtrl, hd]
    · cases hb : busy s with
      | true => exact .inr (.inr (.inl ⟨r, rfl, rfl, hr, by simp only [if_true, if_neg hr]⟩))
      | false => exact .inr (.inr (.inr ⟨r, rfl, rfl, hr, by simp⟩))

/-! ### A step -/

/-- Every instruction has a next state. -/
theorem exec_next (i : Instr) (s : State) : ∃ t, exec i s = .next t := by
  cases i <;> exact ⟨_, rfl⟩

/-- The next state of an instruction, as a function. -/
def execState (i : Instr) (s : State) : State :=
  match exec i s with
  | .next t => t
  | .fault _ => s
  | .refused _ => s

theorem exec_eq_execState (i : Instr) (s : State) : exec i s = .next (execState i s) := by
  obtain ⟨t, ht⟩ := exec_next i s
  simp [execState, ht]

/-- What a step can do: hold an idle block, fail an illegal word, run an instruction, or reset. -/
theorem step_cases {s t : State} (h : step s = .next t) :
    ∃ u, (u = s ∨ ∃ e, s.events = e :: u.events ∧ u = { s with events := u.events }) ∧
      (t = u ∨
        (∃ w why, s.pending = some w ∧ decodeCommand w = .illegal why ∧
          t = failedWith (illegalCommand why w) u) ∨
        (∃ i, exec i u = .next t ∧
          ((∃ w, s.pending = some w ∧ decodeCommand w = .instr i) ∨
            ∃ w, s.events = .transaction w :: u.events ∧ i = decodeTransaction w)) ∨
        ∃ n, s.events = .hardReset n :: u.events ∧ t = hardReset n u) := by
  have pend : ∀ u : State, u.pending = s.pending → runPending u = .next t →
      t = u ∨
        (∃ w why, s.pending = some w ∧ decodeCommand w = .illegal why ∧
          t = failedWith (illegalCommand why w) u) ∨
        (∃ i w, exec i u = .next t ∧ s.pending = some w ∧ decodeCommand w = .instr i) := by
    intro u hu hr
    unfold runPending at hr
    rw [hu] at hr
    split at hr
    · rename_i w hw
      unfold runCommand at hr
      split at hr
      · exact .inr (.inr ⟨_, _, hr, hw, ‹_›⟩)
      · rename_i why hwhy
        exact .inr (.inl ⟨w, why, hw, hwhy, by simpa using hr.symm⟩)
    · exact .inl (by simpa using hr.symm)
  unfold step at h
  split at h
  · refine ⟨s, .inl rfl, ?_⟩
    rcases pend s rfl h with h1 | h1 | ⟨i, w, h1, h2, h3⟩
    · exact .inl h1
    · exact .inr (.inl h1)
    · exact .inr (.inr (.inl ⟨i, h1, .inl ⟨w, h2, h3⟩⟩))
  · rename_i e rest he
    refine ⟨{ s with events := rest }, .inr ⟨e, he, rfl⟩, ?_⟩
    cases e with
    | transaction w => exact .inr (.inr (.inl ⟨_, h, .inr ⟨w, he, rfl⟩⟩))
    | completion =>
      rcases pend { s with events := rest } rfl h with h1 | h1 | ⟨i, w, h1, h2, h3⟩
      · exact .inl h1
      · exact .inr (.inl h1)
      · exact .inr (.inr (.inl ⟨i, h1, .inl ⟨w, h2, h3⟩⟩))
    | hardReset n =>
      refine .inr (.inr (.inr ⟨n, he, ?_⟩))
      simpa [runEvent] using h.symm

end Sys2Proof.Machine
end

