-- ==== Sys2Proof/Laws/Coherent.lean ====
section
/-!
SUPPORT. Each stage's commit keeps the state coherent: what a set flag says stays true, and what a
clear flag owns stays empty.
-/

namespace Sys2Proof.Machine

open Sys2Proof

/-- A clear flag is not set. -/
theorem clear_flag {P : Prop} (h : false = true) : P := Bool.noConfusion h

/-- The samples of SYNTH are as many as R183 says. -/
theorem pairSamples_length (s : State) (f : Nat → Nat → F64) :
    (pairSamples s f).length = sampleCount s.spc.toNat s.chip.nChips.toNat := by
  simp [pairSamples, sampleCount, List.length_flatMap, Nat.mul_comm]

/-- When the checks of R184 pass, the parameters are legal and the sample count is within
MAX_SAMPLES. -/
theorem signalConfigError_none {s : State} {n : Nat} (h : signalConfigError s n = none) :
    s.bps ≠ 0#32 ∧ 2 ≤ s.spc.toNat ∧ finite s.f0 = true ∧ finite s.phi0 = true ∧
      sampleCount s.spc.toNat n ≤ s.maxSamples.toNat := by
  unfold signalConfigError at h
  split_ifs at h
  simp_all
  omega

/-- In a coherent state the envelope has N_SAMP samples. -/
theorem Coherent.env_length {s : State} (h : Coherent s) (hs : s.sig.valid = true) :
    s.sig.env.length = s.sig.nSamp.toNat := by
  obtain ⟨h1, -, -, h4, h5⟩ := h.current.sig hs
  have hc := (signalConfigError_none h1).2.2.2.2
  have := s.maxSamples.isLt
  rw [h4, h5, synthEnv, pairSamples_length, BitVec.toNat_ofNat, Nat.mod_eq_of_lt (by omega)]

/-- GEN_MSEQ A keeps coherence (R132). -/
theorem genMseqA_coherent {s : State} (h : Coherent s) : Coherent (genMseqA s).state :=
  { chain := ⟨clear_flag, clear_flag, clear_flag, clear_flag, clear_flag, clear_flag⟩
    noStale := ⟨fun hv => clear_flag hv.symm, h.noStale.msb, fun _ => rfl, fun _ => rfl,
      fun _ => rfl, fun _ => rfl, fun _ => rfl, fun _ => rfl⟩
    current := ⟨fun _ => rfl, h.current.msb, clear_flag, clear_flag, clear_flag, fun _ => rfl,
      clear_flag, clear_flag, clear_flag⟩ }

/-- GEN_MSEQ B keeps coherence (R132). -/
theorem genMseqB_coherent {s : State} (h : Coherent s) : Coherent (genMseqB s).state :=
  { chain := ⟨clear_flag, clear_flag, clear_flag, clear_flag, clear_flag, clear_flag⟩
    noStale := ⟨h.noStale.msa, fun hv => clear_flag hv.symm, fun _ => rfl, fun _ => rfl,
      fun _ => rfl, fun _ => rfl, fun _ => rfl, fun _ => rfl⟩
    current := ⟨h.current.msa, fun _ => rfl, clear_flag, clear_flag, clear_flag, fun _ => rfl,
      clear_flag, clear_flag, clear_flag⟩ }

/-- BUILD_GOLD keeps coherence (R152). -/
theorem buildGold_coherent {s : State} (h : Coherent s) : Coherent (buildGold s).state := by
  rcases buildGold_cases s with ⟨h1, h2, h3, hb⟩ | ⟨e, hb⟩
  · rw [hb]
    exact
      { chain := ⟨fun _ => ⟨rfl, rfl⟩, clear_flag, clear_flag, clear_flag, clear_flag, clear_flag⟩
        noStale := ⟨fun hv => clear_flag hv.symm, fun hv => clear_flag hv.symm,
          fun hv => clear_flag hv.symm, fun _ => rfl, fun _ => rfl, fun _ => rfl, fun _ => rfl,
          fun _ => rfl⟩
        current := ⟨fun _ => rfl, fun _ => rfl, fun _ => ⟨h1, h2, h3, rfl⟩, clear_flag, clear_flag,
          fun _ => rfl, clear_flag, clear_flag, clear_flag⟩ }
  · rw [hb]
    exact h

/-- SPREAD keeps coherence (R170). -/
theorem spread_coherent {s : State} (h : Coherent s) : Coherent (spread s).state := by
  rcases spread_cases s with ⟨hg, hn, hm, hb⟩ | ⟨e, hb⟩
  · rw [hb]
    have hn' : 0 < s.nBits.toNat := by
      refine Nat.pos_of_ne_zero fun h0 => hn ?_
      exact BitVec.eq_of_toNat_eq h0
    exact
      { chain := ⟨h.chain.gold, fun _ => hg, clear_flag, clear_flag, clear_flag, clear_flag⟩
        noStale := ⟨h.noStale.msa, h.noStale.msb, h.noStale.gold, fun hv => clear_flag hv.symm,
          fun _ => rfl, fun _ => rfl, fun _ => rfl, fun _ => rfl⟩
        current := ⟨h.current.msa, h.current.msb, h.current.gold, fun _ => ⟨hn', hm, rfl, rfl⟩,
          clear_flag, fun _ => rfl, clear_flag, clear_flag, clear_flag⟩ }
  · rw [hb]
    exact h

/-- SYNTH keeps coherence (R180). -/
theorem synth_coherent {s : State} (h : Coherent s) : Coherent (synth s).state := by
  rcases synth_cases s with ⟨hc, hs, hb⟩ | ⟨e, hb⟩
  · rw [hb]
    exact
      { chain := ⟨h.chain.gold, h.chain.chip, fun _ => hc, clear_flag, clear_flag, clear_flag⟩
        noStale := ⟨h.noStale.msa, h.noStale.msb, h.noStale.gold, h.noStale.chip,
          fun hv => clear_flag hv.symm, fun _ => rfl, fun _ => rfl, fun _ => rfl⟩
        current := ⟨h.current.msa, h.current.msb, h.current.gold, h.current.chip,
          fun _ => ⟨hs, rfl, rfl, rfl, rfl⟩, fun _ => rfl, clear_flag, clear_flag, clear_flag⟩ }
  · rw [hb]
    exact h

/-- CORRELATE keeps coherence (R222). -/
theorem correlate_coherent {s : State} (h : Coherent s) : Coherent (correlate s).state := by
  rcases correlate_cases s with ⟨hs, hr, hb⟩ | ⟨e, hb⟩
  · rw [hb]
    exact
      { chain := ⟨h.chain.gold, h.chain.chip, h.chain.sig, h.chain.noisy, fun _ => hs, clear_flag⟩
        noStale := ⟨h.noStale.msa, h.noStale.msb, h.noStale.gold, h.noStale.chip, h.noStale.sig,
          h.noStale.noisy, fun hv => clear_flag hv.symm, fun _ => rfl⟩
        current := ⟨h.current.msa, h.current.msb, h.current.gold, h.current.chip, h.current.sig,
          h.current.clean, h.current.noisy, fun _ => ⟨hr, rfl, rfl, rfl, rfl⟩, clear_flag⟩ }
  · rw [hb]
    exact h

/-- DECODE keeps coherence (R247). -/
theorem decodeStage_coherent {s : State} (h : Coherent s) : Coherent (decodeStage s).state := by
  rcases decodeStage_cases s with ⟨hc, h1, h2, h3, hb⟩ | ⟨e, hb⟩
  · rw [hb]
    exact
      { chain := ⟨h.chain.gold, h.chain.chip, h.chain.sig, h.chain.noisy, h.chain.corr, fun _ => hc⟩
        noStale := ⟨h.noStale.msa, h.noStale.msb, h.noStale.gold, h.noStale.chip, h.noStale.sig,
          h.noStale.noisy, h.noStale.corr, fun hv => clear_flag hv.symm⟩
        current := ⟨h.current.msa, h.current.msb, h.current.gold, h.current.chip, h.current.sig,
          h.current.clean, h.current.noisy, h.current.corr, fun _ => ⟨h1, h2, rfl⟩⟩ }
  · rw [hb]
    exact h

end Sys2Proof.Machine
end

