-- ==== Sys2Proof/Laws/Commits.lean ====
section
/-!
SUPPORT. The fields of the state after each stage's commit, one lemma per field.
-/

namespace Sys2Proof.Machine

open Sys2Proof

/-! ### BUILD_GOLD's commit (R152) -/

@[simp] theorem goldCommit_ctrl (s : State) : (goldCommit s).ctrl = s.ctrl := rfl
@[simp] theorem goldCommit_cmd (s : State) : (goldCommit s).cmd = s.cmd := rfl
@[simp] theorem goldCommit_status (s : State) : (goldCommit s).status = s.status := rfl
@[simp] theorem goldCommit_irqEn (s : State) : (goldCommit s).irqEn = s.irqEn := rfl
@[simp] theorem goldCommit_errCode (s : State) : (goldCommit s).errCode = s.errCode := rfl
@[simp] theorem goldCommit_errInfo (s : State) : (goldCommit s).errInfo = s.errInfo := rfl
@[simp] theorem goldCommit_tapsA (s : State) : (goldCommit s).tapsA = s.tapsA := rfl
@[simp] theorem goldCommit_tapsB (s : State) : (goldCommit s).tapsB = s.tapsB := rfl
@[simp] theorem goldCommit_shifts (s : State) : (goldCommit s).shifts = s.shifts := rfl
@[simp] theorem goldCommit_lfsr (s : State) : (goldCommit s).lfsr = (mseq s.tapsB).2 := rfl
@[simp] theorem goldCommit_nBits (s : State) : (goldCommit s).nBits = s.nBits := rfl
@[simp] theorem goldCommit_bps (s : State) : (goldCommit s).bps = s.bps := rfl
@[simp] theorem goldCommit_spc (s : State) : (goldCommit s).spc = s.spc := rfl
@[simp] theorem goldCommit_f0 (s : State) : (goldCommit s).f0 = s.f0 := rfl
@[simp] theorem goldCommit_phi0 (s : State) : (goldCommit s).phi0 = s.phi0 := rfl
@[simp] theorem goldCommit_snrDb (s : State) : (goldCommit s).snrDb = s.snrDb := rfl
@[simp] theorem goldCommit_a0 (s : State) : (goldCommit s).a0 = s.a0 := rfl
@[simp] theorem goldCommit_bufSel (s : State) : (goldCommit s).bufSel = s.bufSel := rfl
@[simp] theorem goldCommit_bufIndex (s : State) : (goldCommit s).bufIndex = s.bufIndex := rfl
@[simp] theorem goldCommit_maxBits (s : State) : (goldCommit s).maxBits = s.maxBits := rfl
@[simp] theorem goldCommit_maxSamples (s : State) : (goldCommit s).maxSamples = s.maxSamples := rfl
@[simp] theorem goldCommit_msa (s : State) : (goldCommit s).msa = ⟨true, (mseq s.tapsA).1⟩ := rfl
@[simp] theorem goldCommit_msb (s : State) : (goldCommit s).msb = ⟨true, (mseq s.tapsB).1⟩ := rfl
@[simp] theorem goldCommit_gold (s : State) : (goldCommit s).gold = ⟨true, goldTable s⟩ := rfl
@[simp] theorem goldCommit_chip (s : State) : (goldCommit s).chip = ChipBank.empty := rfl
@[simp] theorem goldCommit_sig (s : State) : (goldCommit s).sig = SigBank.empty := rfl
@[simp] theorem goldCommit_noisy (s : State) : (goldCommit s).noisy = NoiseBank.empty := rfl
@[simp] theorem goldCommit_corr (s : State) : (goldCommit s).corr = CorrBank.empty := rfl
@[simp] theorem goldCommit_dec (s : State) : (goldCommit s).dec = DecBank.empty := rfl
@[simp] theorem goldCommit_mem (s : State) : (goldCommit s).mem = s.mem := rfl
@[simp] theorem goldCommit_pending (s : State) : (goldCommit s).pending = s.pending := rfl
@[simp] theorem goldCommit_noiseState (s : State) : (goldCommit s).noiseState = s.noiseState := rfl
@[simp] theorem goldCommit_events (s : State) : (goldCommit s).events = s.events := rfl
@[simp] theorem goldCommit_readData (s : State) : (goldCommit s).readData = s.readData := rfl

/-! ### SPREAD's commit (R170) -/

@[simp] theorem spreadCommit_ctrl (s : State) : (spreadCommit s).ctrl = s.ctrl := rfl
@[simp] theorem spreadCommit_cmd (s : State) : (spreadCommit s).cmd = s.cmd := rfl
@[simp] theorem spreadCommit_status (s : State) : (spreadCommit s).status = s.status := rfl
@[simp] theorem spreadCommit_irqEn (s : State) : (spreadCommit s).irqEn = s.irqEn := rfl
@[simp] theorem spreadCommit_errCode (s : State) : (spreadCommit s).errCode = s.errCode := rfl
@[simp] theorem spreadCommit_errInfo (s : State) : (spreadCommit s).errInfo = s.errInfo := rfl
@[simp] theorem spreadCommit_tapsA (s : State) : (spreadCommit s).tapsA = s.tapsA := rfl
@[simp] theorem spreadCommit_tapsB (s : State) : (spreadCommit s).tapsB = s.tapsB := rfl
@[simp] theorem spreadCommit_shifts (s : State) : (spreadCommit s).shifts = s.shifts := rfl
@[simp] theorem spreadCommit_lfsr (s : State) : (spreadCommit s).lfsr = s.lfsr := rfl
@[simp] theorem spreadCommit_nBits (s : State) : (spreadCommit s).nBits = s.nBits := rfl
@[simp] theorem spreadCommit_bps (s : State) : (spreadCommit s).bps = s.bps := rfl
@[simp] theorem spreadCommit_spc (s : State) : (spreadCommit s).spc = s.spc := rfl
@[simp] theorem spreadCommit_f0 (s : State) : (spreadCommit s).f0 = s.f0 := rfl
@[simp] theorem spreadCommit_phi0 (s : State) : (spreadCommit s).phi0 = s.phi0 := rfl
@[simp] theorem spreadCommit_snrDb (s : State) : (spreadCommit s).snrDb = s.snrDb := rfl
@[simp] theorem spreadCommit_a0 (s : State) : (spreadCommit s).a0 = s.a0 := rfl
@[simp] theorem spreadCommit_bufSel (s : State) : (spreadCommit s).bufSel = s.bufSel := rfl
@[simp] theorem spreadCommit_bufIndex (s : State) : (spreadCommit s).bufIndex = s.bufIndex := rfl
@[simp] theorem spreadCommit_maxBits (s : State) : (spreadCommit s).maxBits = s.maxBits := rfl
@[simp] theorem spreadCommit_maxSamples (s : State) :
    (spreadCommit s).maxSamples = s.maxSamples := rfl
@[simp] theorem spreadCommit_msa (s : State) : (spreadCommit s).msa = s.msa := rfl
@[simp] theorem spreadCommit_msb (s : State) : (spreadCommit s).msb = s.msb := rfl
@[simp] theorem spreadCommit_gold (s : State) : (spreadCommit s).gold = s.gold := rfl
@[simp] theorem spreadCommit_chip (s : State) :
    (spreadCommit s).chip = ⟨true, spreadChips s, BitVec.ofNat 32 (63 * (s.nBits.toNat / 2))⟩ := rfl
@[simp] theorem spreadCommit_sig (s : State) : (spreadCommit s).sig = SigBank.empty := rfl
@[simp] theorem spreadCommit_noisy (s : State) : (spreadCommit s).noisy = NoiseBank.empty := rfl
@[simp] theorem spreadCommit_corr (s : State) : (spreadCommit s).corr = CorrBank.empty := rfl
@[simp] theorem spreadCommit_dec (s : State) : (spreadCommit s).dec = DecBank.empty := rfl
@[simp] theorem spreadCommit_mem (s : State) : (spreadCommit s).mem = s.mem := rfl
@[simp] theorem spreadCommit_pending (s : State) : (spreadCommit s).pending = s.pending := rfl
@[simp] theorem spreadCommit_noiseState (s : State) :
    (spreadCommit s).noiseState = s.noiseState := rfl
@[simp] theorem spreadCommit_events (s : State) : (spreadCommit s).events = s.events := rfl
@[simp] theorem spreadCommit_readData (s : State) : (spreadCommit s).readData = s.readData := rfl

/-! ### SYNTH's commit (R180) -/

@[simp] theorem synthCommit_ctrl (s : State) : (synthCommit s).ctrl = s.ctrl := rfl
@[simp] theorem synthCommit_cmd (s : State) : (synthCommit s).cmd = s.cmd := rfl
@[simp] theorem synthCommit_status (s : State) : (synthCommit s).status = s.status := rfl
@[simp] theorem synthCommit_irqEn (s : State) : (synthCommit s).irqEn = s.irqEn := rfl
@[simp] theorem synthCommit_errCode (s : State) : (synthCommit s).errCode = s.errCode := rfl
@[simp] theorem synthCommit_errInfo (s : State) : (synthCommit s).errInfo = s.errInfo := rfl
@[simp] theorem synthCommit_tapsA (s : State) : (synthCommit s).tapsA = s.tapsA := rfl
@[simp] theorem synthCommit_tapsB (s : State) : (synthCommit s).tapsB = s.tapsB := rfl
@[simp] theorem synthCommit_shifts (s : State) : (synthCommit s).shifts = s.shifts := rfl
@[simp] theorem synthCommit_lfsr (s : State) : (synthCommit s).lfsr = s.lfsr := rfl
@[simp] theorem synthCommit_nBits (s : State) : (synthCommit s).nBits = s.nBits := rfl
@[simp] theorem synthCommit_bps (s : State) : (synthCommit s).bps = s.bps := rfl
@[simp] theorem synthCommit_spc (s : State) : (synthCommit s).spc = s.spc := rfl
@[simp] theorem synthCommit_f0 (s : State) : (synthCommit s).f0 = s.f0 := rfl
@[simp] theorem synthCommit_phi0 (s : State) : (synthCommit s).phi0 = s.phi0 := rfl
@[simp] theorem synthCommit_snrDb (s : State) : (synthCommit s).snrDb = s.snrDb := rfl
@[simp] theorem synthCommit_a0 (s : State) : (synthCommit s).a0 = s.a0 := rfl
@[simp] theorem synthCommit_bufSel (s : State) : (synthCommit s).bufSel = s.bufSel := rfl
@[simp] theorem synthCommit_bufIndex (s : State) : (synthCommit s).bufIndex = s.bufIndex := rfl
@[simp] theorem synthCommit_maxBits (s : State) : (synthCommit s).maxBits = s.maxBits := rfl
@[simp] theorem synthCommit_maxSamples (s : State) :
    (synthCommit s).maxSamples = s.maxSamples := rfl
@[simp] theorem synthCommit_msa (s : State) : (synthCommit s).msa = s.msa := rfl
@[simp] theorem synthCommit_msb (s : State) : (synthCommit s).msb = s.msb := rfl
@[simp] theorem synthCommit_gold (s : State) : (synthCommit s).gold = s.gold := rfl
@[simp] theorem synthCommit_chip (s : State) : (synthCommit s).chip = s.chip := rfl
@[simp] theorem synthCommit_sig (s : State) :
    (synthCommit s).sig = ⟨true, synthI s, synthQ s, synthEnv s, synthEnv s,
      BitVec.ofNat 32 (sampleCount s.spc.toNat s.chip.nChips.toNat)⟩ := rfl
@[simp] theorem synthCommit_noisy (s : State) : (synthCommit s).noisy = NoiseBank.empty := rfl
@[simp] theorem synthCommit_corr (s : State) : (synthCommit s).corr = CorrBank.empty := rfl
@[simp] theorem synthCommit_dec (s : State) : (synthCommit s).dec = DecBank.empty := rfl
@[simp] theorem synthCommit_mem (s : State) : (synthCommit s).mem = s.mem := rfl
@[simp] theorem synthCommit_pending (s : State) : (synthCommit s).pending = s.pending := rfl
@[simp] theorem synthCommit_noiseState (s : State) :
    (synthCommit s).noiseState = s.noiseState := rfl
@[simp] theorem synthCommit_events (s : State) : (synthCommit s).events = s.events := rfl
@[simp] theorem synthCommit_readData (s : State) : (synthCommit s).readData = s.readData := rfl

/-! ### ADD_NOISE's commit (R200) -/

@[simp] theorem noiseCommit_ctrl (g : List F64) (norm : F64) (rx : List F64) (s : State) :
    (noiseCommit g norm rx s).ctrl = s.ctrl := rfl
@[simp] theorem noiseCommit_cmd (g : List F64) (norm : F64) (rx : List F64) (s : State) :
    (noiseCommit g norm rx s).cmd = s.cmd := rfl
@[simp] theorem noiseCommit_status (g : List F64) (norm : F64) (rx : List F64) (s : State) :
    (noiseCommit g norm rx s).status = s.status := rfl
@[simp] theorem noiseCommit_irqEn (g : List F64) (norm : F64) (rx : List F64) (s : State) :
    (noiseCommit g norm rx s).irqEn = s.irqEn := rfl
@[simp] theorem noiseCommit_errCode (g : List F64) (norm : F64) (rx : List F64) (s : State) :
    (noiseCommit g norm rx s).errCode = s.errCode := rfl
@[simp] theorem noiseCommit_errInfo (g : List F64) (norm : F64) (rx : List F64) (s : State) :
    (noiseCommit g norm rx s).errInfo = s.errInfo := rfl
@[simp] theorem noiseCommit_tapsA (g : List F64) (norm : F64) (rx : List F64) (s : State) :
    (noiseCommit g norm rx s).tapsA = s.tapsA := rfl
@[simp] theorem noiseCommit_tapsB (g : List F64) (norm : F64) (rx : List F64) (s : State) :
    (noiseCommit g norm rx s).tapsB = s.tapsB := rfl
@[simp] theorem noiseCommit_shifts (g : List F64) (norm : F64) (rx : List F64) (s : State) :
    (noiseCommit g norm rx s).shifts = s.shifts := rfl
@[simp] theorem noiseCommit_lfsr (g : List F64) (norm : F64) (rx : List F64) (s : State) :
    (noiseCommit g norm rx s).lfsr = s.lfsr := rfl
@[simp] theorem noiseCommit_nBits (g : List F64) (norm : F64) (rx : List F64) (s : State) :
    (noiseCommit g norm rx s).nBits = s.nBits := rfl
@[simp] theorem noiseCommit_bps (g : List F64) (norm : F64) (rx : List F64) (s : State) :
    (noiseCommit g norm rx s).bps = s.bps := rfl
@[simp] theorem noiseCommit_spc (g : List F64) (norm : F64) (rx : List F64) (s : State) :
    (noiseCommit g norm rx s).spc = s.spc := rfl
@[simp] theorem noiseCommit_f0 (g : List F64) (norm : F64) (rx : List F64) (s : State) :
    (noiseCommit g norm rx s).f0 = s.f0 := rfl
@[simp] theorem noiseCommit_phi0 (g : List F64) (norm : F64) (rx : List F64) (s : State) :
    (noiseCommit g norm rx s).phi0 = s.phi0 := rfl
@[simp] theorem noiseCommit_snrDb (g : List F64) (norm : F64) (rx : List F64) (s : State) :
    (noiseCommit g norm rx s).snrDb = s.snrDb := rfl
@[simp] theorem noiseCommit_a0 (g : List F64) (norm : F64) (rx : List F64) (s : State) :
    (noiseCommit g norm rx s).a0 = s.a0 := rfl
@[simp] theorem noiseCommit_bufSel (g : List F64) (norm : F64) (rx : List F64) (s : State) :
    (noiseCommit g norm rx s).bufSel = s.bufSel := rfl
@[simp] theorem noiseCommit_bufIndex (g : List F64) (norm : F64) (rx : List F64) (s : State) :
    (noiseCommit g norm rx s).bufIndex = s.bufIndex := rfl
@[simp] theorem noiseCommit_maxBits (g : List F64) (norm : F64) (rx : List F64) (s : State) :
    (noiseCommit g norm rx s).maxBits = s.maxBits := rfl
@[simp] theorem noiseCommit_maxSamples (g : List F64) (norm : F64) (rx : List F64) (s : State) :
    (noiseCommit g norm rx s).maxSamples = s.maxSamples := rfl
@[simp] theorem noiseCommit_msa (g : List F64) (norm : F64) (rx : List F64) (s : State) :
    (noiseCommit g norm rx s).msa = s.msa := rfl
@[simp] theorem noiseCommit_msb (g : List F64) (norm : F64) (rx : List F64) (s : State) :
    (noiseCommit g norm rx s).msb = s.msb := rfl
@[simp] theorem noiseCommit_gold (g : List F64) (norm : F64) (rx : List F64) (s : State) :
    (noiseCommit g norm rx s).gold = s.gold := rfl
@[simp] theorem noiseCommit_chip (g : List F64) (norm : F64) (rx : List F64) (s : State) :
    (noiseCommit g norm rx s).chip = s.chip := rfl
@[simp] theorem noiseCommit_sig (g : List F64) (norm : F64) (rx : List F64) (s : State) :
    (noiseCommit g norm rx s).sig = { s.sig with rx := rx } := rfl
@[simp] theorem noiseCommit_noisy (g : List F64) (norm : F64) (rx : List F64) (s : State) :
    (noiseCommit g norm rx s).noisy = ⟨true, scaledNoise g norm, norm⟩ := rfl
@[simp] theorem noiseCommit_corr (g : List F64) (norm : F64) (rx : List F64) (s : State) :
    (noiseCommit g norm rx s).corr = CorrBank.empty := rfl
@[simp] theorem noiseCommit_dec (g : List F64) (norm : F64) (rx : List F64) (s : State) :
    (noiseCommit g norm rx s).dec = DecBank.empty := rfl
@[simp] theorem noiseCommit_mem (g : List F64) (norm : F64) (rx : List F64) (s : State) :
    (noiseCommit g norm rx s).mem = s.mem := rfl
@[simp] theorem noiseCommit_pending (g : List F64) (norm : F64) (rx : List F64) (s : State) :
    (noiseCommit g norm rx s).pending = s.pending := rfl
@[simp] theorem noiseCommit_noiseState (g : List F64) (norm : F64) (rx : List F64) (s : State) :
    (noiseCommit g norm rx s).noiseState = s.noiseState := rfl
@[simp] theorem noiseCommit_events (g : List F64) (norm : F64) (rx : List F64) (s : State) :
    (noiseCommit g norm rx s).events = s.events := rfl
@[simp] theorem noiseCommit_readData (g : List F64) (norm : F64) (rx : List F64) (s : State) :
    (noiseCommit g norm rx s).readData = s.readData := rfl

/-! ### CORRELATE's commit (R222) -/

@[simp] theorem correlateCommit_ctrl (s : State) : (correlateCommit s).ctrl = s.ctrl := rfl
@[simp] theorem correlateCommit_cmd (s : State) : (correlateCommit s).cmd = s.cmd := rfl
@[simp] theorem correlateCommit_status (s : State) : (correlateCommit s).status = s.status := rfl
@[simp] theorem correlateCommit_irqEn (s : State) : (correlateCommit s).irqEn = s.irqEn := rfl
@[simp] theorem correlateCommit_errCode (s : State) :
    (correlateCommit s).errCode = s.errCode := rfl
@[simp] theorem correlateCommit_errInfo (s : State) :
    (correlateCommit s).errInfo = s.errInfo := rfl
@[simp] theorem correlateCommit_tapsA (s : State) : (correlateCommit s).tapsA = s.tapsA := rfl
@[simp] theorem correlateCommit_tapsB (s : State) : (correlateCommit s).tapsB = s.tapsB := rfl
@[simp] theorem correlateCommit_shifts (s : State) : (correlateCommit s).shifts = s.shifts := rfl
@[simp] theorem correlateCommit_lfsr (s : State) : (correlateCommit s).lfsr = s.lfsr := rfl
@[simp] theorem correlateCommit_nBits (s : State) : (correlateCommit s).nBits = s.nBits := rfl
@[simp] theorem correlateCommit_bps (s : State) : (correlateCommit s).bps = s.bps := rfl
@[simp] theorem correlateCommit_spc (s : State) : (correlateCommit s).spc = s.spc := rfl
@[simp] theorem correlateCommit_f0 (s : State) : (correlateCommit s).f0 = s.f0 := rfl
@[simp] theorem correlateCommit_phi0 (s : State) : (correlateCommit s).phi0 = s.phi0 := rfl
@[simp] theorem correlateCommit_snrDb (s : State) : (correlateCommit s).snrDb = s.snrDb := rfl
@[simp] theorem correlateCommit_a0 (s : State) : (correlateCommit s).a0 = s.a0 := rfl
@[simp] theorem correlateCommit_bufSel (s : State) : (correlateCommit s).bufSel = s.bufSel := rfl
@[simp] theorem correlateCommit_bufIndex (s : State) :
    (correlateCommit s).bufIndex = s.bufIndex := rfl
@[simp] theorem correlateCommit_maxBits (s : State) :
    (correlateCommit s).maxBits = s.maxBits := rfl
@[simp] theorem correlateCommit_maxSamples (s : State) :
    (correlateCommit s).maxSamples = s.maxSamples := rfl
@[simp] theorem correlateCommit_msa (s : State) : (correlateCommit s).msa = s.msa := rfl
@[simp] theorem correlateCommit_msb (s : State) : (correlateCommit s).msb = s.msb := rfl
@[simp] theorem correlateCommit_gold (s : State) : (correlateCommit s).gold = s.gold := rfl
@[simp] theorem correlateCommit_chip (s : State) : (correlateCommit s).chip = s.chip := rfl
@[simp] theorem correlateCommit_sig (s : State) : (correlateCommit s).sig = s.sig := rfl
@[simp] theorem correlateCommit_noisy (s : State) : (correlateCommit s).noisy = s.noisy := rfl
@[simp] theorem correlateCommit_corr (s : State) :
    (correlateCommit s).corr = ⟨true, references s, traces s, BitVec.ofNat 32 (referenceLen s),
      BitVec.ofNat 32 (traceLen s.sig.nSamp.toNat (referenceLen s))⟩ := rfl
@[simp] theorem correlateCommit_dec (s : State) : (correlateCommit s).dec = DecBank.empty := rfl
@[simp] theorem correlateCommit_mem (s : State) : (correlateCommit s).mem = s.mem := rfl
@[simp] theorem correlateCommit_pending (s : State) :
    (correlateCommit s).pending = s.pending := rfl
@[simp] theorem correlateCommit_noiseState (s : State) :
    (correlateCommit s).noiseState = s.noiseState := rfl
@[simp] theorem correlateCommit_events (s : State) : (correlateCommit s).events = s.events := rfl
@[simp] theorem correlateCommit_readData (s : State) :
    (correlateCommit s).readData = s.readData := rfl

/-! ### DECODE's commit (R247) -/

@[simp] theorem decodeCommit_ctrl (d : List Bool) (cbf startEnd : Int) (s : State) :
    (decodeCommit s d cbf startEnd).ctrl = s.ctrl := rfl
@[simp] theorem decodeCommit_cmd (d : List Bool) (cbf startEnd : Int) (s : State) :
    (decodeCommit s d cbf startEnd).cmd = s.cmd := rfl
@[simp] theorem decodeCommit_status (d : List Bool) (cbf startEnd : Int) (s : State) :
    (decodeCommit s d cbf startEnd).status = s.status := rfl
@[simp] theorem decodeCommit_irqEn (d : List Bool) (cbf startEnd : Int) (s : State) :
    (decodeCommit s d cbf startEnd).irqEn = s.irqEn := rfl
@[simp] theorem decodeCommit_errCode (d : List Bool) (cbf startEnd : Int) (s : State) :
    (decodeCommit s d cbf startEnd).errCode = s.errCode := rfl
@[simp] theorem decodeCommit_errInfo (d : List Bool) (cbf startEnd : Int) (s : State) :
    (decodeCommit s d cbf startEnd).errInfo = s.errInfo := rfl
@[simp] theorem decodeCommit_tapsA (d : List Bool) (cbf startEnd : Int) (s : State) :
    (decodeCommit s d cbf startEnd).tapsA = s.tapsA := rfl
@[simp] theorem decodeCommit_tapsB (d : List Bool) (cbf startEnd : Int) (s : State) :
    (decodeCommit s d cbf startEnd).tapsB = s.tapsB := rfl
@[simp] theorem decodeCommit_shifts (d : List Bool) (cbf startEnd : Int) (s : State) :
    (decodeCommit s d cbf startEnd).shifts = s.shifts := rfl
@[simp] theorem decodeCommit_lfsr (d : List Bool) (cbf startEnd : Int) (s : State) :
    (decodeCommit s d cbf startEnd).lfsr = s.lfsr := rfl
@[simp] theorem decodeCommit_nBits (d : List Bool) (cbf startEnd : Int) (s : State) :
    (decodeCommit s d cbf startEnd).nBits = s.nBits := rfl
@[simp] theorem decodeCommit_bps (d : List Bool) (cbf startEnd : Int) (s : State) :
    (decodeCommit s d cbf startEnd).bps = s.bps := rfl
@[simp] theorem decodeCommit_spc (d : List Bool) (cbf startEnd : Int) (s : State) :
    (decodeCommit s d cbf startEnd).spc = s.spc := rfl
@[simp] theorem decodeCommit_f0 (d : List Bool) (cbf startEnd : Int) (s : State) :
    (decodeCommit s d cbf startEnd).f0 = s.f0 := rfl
@[simp] theorem decodeCommit_phi0 (d : List Bool) (cbf startEnd : Int) (s : State) :
    (decodeCommit s d cbf startEnd).phi0 = s.phi0 := rfl
@[simp] theorem decodeCommit_snrDb (d : List Bool) (cbf startEnd : Int) (s : State) :
    (decodeCommit s d cbf startEnd).snrDb = s.snrDb := rfl
@[simp] theorem decodeCommit_a0 (d : List Bool) (cbf startEnd : Int) (s : State) :
    (decodeCommit s d cbf startEnd).a0 = s.a0 := rfl
@[simp] theorem decodeCommit_bufSel (d : List Bool) (cbf startEnd : Int) (s : State) :
    (decodeCommit s d cbf startEnd).bufSel = s.bufSel := rfl
@[simp] theorem decodeCommit_bufIndex (d : List Bool) (cbf startEnd : Int) (s : State) :
    (decodeCommit s d cbf startEnd).bufIndex = s.bufIndex := rfl
@[simp] theorem decodeCommit_maxBits (d : List Bool) (cbf startEnd : Int) (s : State) :
    (decodeCommit s d cbf startEnd).maxBits = s.maxBits := rfl
@[simp] theorem decodeCommit_maxSamples (d : List Bool) (cbf startEnd : Int) (s : State) :
    (decodeCommit s d cbf startEnd).maxSamples = s.maxSamples := rfl
@[simp] theorem decodeCommit_msa (d : List Bool) (cbf startEnd : Int) (s : State) :
    (decodeCommit s d cbf startEnd).msa = s.msa := rfl
@[simp] theorem decodeCommit_msb (d : List Bool) (cbf startEnd : Int) (s : State) :
    (decodeCommit s d cbf startEnd).msb = s.msb := rfl
@[simp] theorem decodeCommit_gold (d : List Bool) (cbf startEnd : Int) (s : State) :
    (decodeCommit s d cbf startEnd).gold = s.gold := rfl
@[simp] theorem decodeCommit_chip (d : List Bool) (cbf startEnd : Int) (s : State) :
    (decodeCommit s d cbf startEnd).chip = s.chip := rfl
@[simp] theorem decodeCommit_sig (d : List Bool) (cbf startEnd : Int) (s : State) :
    (decodeCommit s d cbf startEnd).sig = s.sig := rfl
@[simp] theorem decodeCommit_noisy (d : List Bool) (cbf startEnd : Int) (s : State) :
    (decodeCommit s d cbf startEnd).noisy = s.noisy := rfl
@[simp] theorem decodeCommit_corr (d : List Bool) (cbf startEnd : Int) (s : State) :
    (decodeCommit s d cbf startEnd).corr = s.corr := rfl
@[simp] theorem decodeCommit_mem (d : List Bool) (cbf startEnd : Int) (s : State) :
    (decodeCommit s d cbf startEnd).mem = s.mem := rfl
@[simp] theorem decodeCommit_pending (d : List Bool) (cbf startEnd : Int) (s : State) :
    (decodeCommit s d cbf startEnd).pending = s.pending := rfl
@[simp] theorem decodeCommit_noiseState (d : List Bool) (cbf startEnd : Int) (s : State) :
    (decodeCommit s d cbf startEnd).noiseState = s.noiseState := rfl
@[simp] theorem decodeCommit_events (d : List Bool) (cbf startEnd : Int) (s : State) :
    (decodeCommit s d cbf startEnd).events = s.events := rfl
@[simp] theorem decodeCommit_readData (d : List Bool) (cbf startEnd : Int) (s : State) :
    (decodeCommit s d cbf startEnd).readData = s.readData := rfl

end Sys2Proof.Machine
end

