-- ==== Sys2Proof/Laws/Frame.lean ====
section
/-!
SUPPORT. What no stage touches: the registers and memories that only the host writes, the error
state, DONE and the pending word.
-/

namespace Sys2Proof.Machine

open Sys2Proof

/-- A stage's result leaves the host's side, the error state and the engine's bookkeeping alone. -/
structure StageKeeps (s t : State) : Prop where
  host : HostSideKept s t
  status : t.status = s.status
  errCode : t.errCode = s.errCode
  errInfo : t.errInfo = s.errInfo
  pending : t.pending = s.pending

theorem HostSideKept.refl (s : State) : HostSideKept s s := by
  constructor <;> intros <;> rfl

theorem HostSideKept.trans {s t u : State} (h : HostSideKept s t) (g : HostSideKept t u) :
    HostSideKept s u :=
  { ctrl := g.ctrl.trans h.ctrl
    cmd := g.cmd.trans h.cmd
    irqEn := g.irqEn.trans h.irqEn
    werr := g.werr.trans h.werr
    aerr := g.aerr.trans h.aerr
    tapsA := g.tapsA.trans h.tapsA
    tapsB := g.tapsB.trans h.tapsB
    shifts := g.shifts.trans h.shifts
    nBits := g.nBits.trans h.nBits
    bps := g.bps.trans h.bps
    spc := g.spc.trans h.spc
    f0 := g.f0.trans h.f0
    phi0 := g.phi0.trans h.phi0
    snrDb := g.snrDb.trans h.snrDb
    a0 := g.a0.trans h.a0
    bufSel := g.bufSel.trans h.bufSel
    bufIndex := g.bufIndex.trans h.bufIndex
    maxBits := g.maxBits.trans h.maxBits
    maxSamples := g.maxSamples.trans h.maxSamples
    bits := fun k => (g.bits k).trans (h.bits k)
    nraw := fun k => (g.nraw k).trans (h.nraw k)
    mem := g.mem.trans h.mem
    events := g.events.trans h.events
    readData := g.readData.trans h.readData }

/-- The host's side is kept where every one of its fields is the same by computation. -/
theorem HostSideKept.of_fields {s t : State}
    (h : t = { s with
      errCode := t.errCode, errInfo := t.errInfo, lfsr := t.lfsr, msa := t.msa, msb := t.msb
      gold := t.gold, chip := t.chip, sig := t.sig, noisy := t.noisy, corr := t.corr, dec := t.dec
      pending := t.pending, noiseState := t.noiseState
      status := { s.status with done := t.status.done, err := t.status.err } }) :
    HostSideKept s t := by
  rw [h]
  constructor <;> intros <;> rfl

theorem StageKeeps.refl (s : State) : StageKeeps s s := ⟨.refl s, rfl, rfl, rfl, rfl⟩

theorem StageKeeps.trans {s t u : State} (h : StageKeeps s t) (g : StageKeeps t u) :
    StageKeeps s u :=
  ⟨h.host.trans g.host, g.status.trans h.status, g.errCode.trans h.errCode,
    g.errInfo.trans h.errInfo, g.pending.trans h.pending⟩

theorem genMseqA_keeps (s : State) : StageKeeps s (genMseqA s).state :=
  ⟨.of_fields rfl, rfl, rfl, rfl, rfl⟩

theorem genMseqB_keeps (s : State) : StageKeeps s (genMseqB s).state :=
  ⟨.of_fields rfl, rfl, rfl, rfl, rfl⟩

theorem buildGold_keeps (s : State) : StageKeeps s (buildGold s).state := by
  rcases buildGold_cases s with ⟨-, -, -, h⟩ | ⟨e, h⟩ <;> rw [h]
  · exact ⟨.of_fields rfl, rfl, rfl, rfl, rfl⟩
  · exact .refl s

theorem spread_keeps (s : State) : StageKeeps s (spread s).state := by
  rcases spread_cases s with ⟨-, -, -, h⟩ | ⟨e, h⟩ <;> rw [h]
  · exact ⟨.of_fields rfl, rfl, rfl, rfl, rfl⟩
  · exact .refl s

theorem synth_keeps (s : State) : StageKeeps s (synth s).state := by
  rcases synth_cases s with ⟨-, -, h⟩ | ⟨e, h⟩ <;> rw [h]
  · exact ⟨.of_fields rfl, rfl, rfl, rfl, rfl⟩
  · exact .refl s

theorem addNoise_keeps (s : State) : StageKeeps s (addNoise s).state := by
  unfold addNoise
  split
  · exact .refl s
  · refine StageKeeps.trans (t := takeDraws s s.sig.nSamp.toNat) ?_ ?_
    · unfold takeDraws
      split
      · exact .refl s
      · exact ⟨.of_fields rfl, rfl, rfl, rfl, rfl⟩
    · generalize takeDraws s s.sig.nSamp.toNat = u
      rcases injectNoise_cases (gaussianSamples s s.sig.nSamp.toNat) u with
        ⟨-, -, -, -, h⟩ | ⟨e, h⟩ <;> rw [h]
      · exact ⟨.of_fields rfl, rfl, rfl, rfl, rfl⟩
      · exact .refl u

theorem correlate_keeps (s : State) : StageKeeps s (correlate s).state := by
  rcases correlate_cases s with ⟨-, -, h⟩ | ⟨e, h⟩ <;> rw [h]
  · exact ⟨.of_fields rfl, rfl, rfl, rfl, rfl⟩
  · exact .refl s

theorem decodeStage_keeps (s : State) : StageKeeps s (decodeStage s).state := by
  rcases decodeStage_cases s with ⟨-, -, -, -, h⟩ | ⟨e, h⟩ <;> rw [h]
  · exact ⟨.of_fields rfl, rfl, rfl, rfl, rfl⟩
  · exact .refl s

end Sys2Proof.Machine
end

