-- ==== Sys2Proof/WellFormed.lean ====
section
/-!
DEFINITION. Which instructions are written as the spec's tables write them. An instruction that
fails a check is still a transaction (R107: every T49 value is one) and still has a meaning; the
checks say only which encodings the opcode table's rows and R107 call legal.
-/

namespace Sys2Proof

/-- The byte enables of a legal access are 0xF (R74, R107). -/
def fullEnables (be : BitVec 4) : Bool := be == 0xF#4

/-- The DATA field of a read is 0 (R107). -/
def readDataZero (data : Word) : Bool := data == 0#32

/-- The instruction has the form its row of the opcode table gives it. -/
def Instr.wellFormed (i : Instr) : Bool :=
  match i with
  | .nop => true
  | .genMseqA => true
  | .genMseqB => true
  | .buildGold => true
  | .spread => true
  | .synth => true
  | .addNoise => true
  | .correlate => true
  | .decode => true
  | .runPipeline => true
  | .rd be _ data => fullEnables be && readDataZero data
  | .wr be _ _ => fullEnables be

end Sys2Proof
end

