-- ==== Sys2Proof/Laws/PerInstr.lean ====
section
/-!
SUPPORT. One law per instruction: the bits an instruction encodes to carry the fixed bits of its row
of spec/opcode_table.json.
-/

namespace Sys2Proof.Laws.RowMatch

open Sys2Proof

/-- An encoding has the fixed bits of a CMD32 row, whose mask is all ones. -/
def commandRow (e : Encoded) (row : Word) : Prop :=
  match e with
  | .cmd32 w => w &&& 0xFFFFFFFF#32 = row
  | .t49 _ => False

/-- An encoding has the fixed bits of a T49 row: BE = 0xF and W. -/
def transactionRow (e : Encoded) (row : Txn) : Prop :=
  match e with
  | .cmd32 _ => False
  | .t49 w => w &&& 0x1F00000000000#49 = row

/-- A well-formed instruction encodes to its row. -/
def Statement (i : Instr) : Prop :=
  i.wellFormed = true →
    match i with
    | .nop => commandRow (encode i) 0x00000000#32
    | .genMseqA => commandRow (encode i) 0x00000001#32
    | .genMseqB => commandRow (encode i) 0x00000101#32
    | .buildGold => commandRow (encode i) 0x00000002#32
    | .spread => commandRow (encode i) 0x00000003#32
    | .synth => commandRow (encode i) 0x00000004#32
    | .addNoise => commandRow (encode i) 0x00000005#32
    | .correlate => commandRow (encode i) 0x00000006#32
    | .decode => commandRow (encode i) 0x00000007#32
    | .runPipeline => commandRow (encode i) 0x00000008#32
    | .rd _ _ _ => transactionRow (encode i) 0x1E00000000000#49
    | .wr _ _ _ => transactionRow (encode i) 0x1F00000000000#49

theorem nop : Statement .nop := fun _ => rfl

theorem genMseqA : Statement .genMseqA := fun _ => rfl

theorem genMseqB : Statement .genMseqB := fun _ => rfl

theorem buildGold : Statement .buildGold := fun _ => rfl

theorem spread : Statement .spread := fun _ => rfl

theorem synth : Statement .synth := fun _ => rfl

theorem addNoise : Statement .addNoise := fun _ => rfl

theorem correlate : Statement .correlate := fun _ => rfl

theorem decode : Statement .decode := fun _ => rfl

theorem runPipeline : Statement .runPipeline := fun _ => rfl

/-- Masking a record leaves its byte enables and its W bit. -/
theorem mask_record (be : BitVec 4) (write : Bool) (offset : BitVec 12) (data : Word) :
    transactionWord be write offset data &&& 0x1F00000000000#49 =
      transactionWord be write 0#12 0#32 := by
  apply BitVec.eq_of_getLsbD_eq
  intro i hi
  have mask : ∀ j : Fin 49, (0x1F00000000000#49).getLsbD j.val = decide (44 ≤ j.val) := by decide
  rw [BitVec.getLsbD_and, mask ⟨i, hi⟩]
  unfold transactionWord
  simp only [BitVec.getLsbD_append]
  by_cases h : 44 ≤ i
  · simp [h, show ¬ i < 32 by omega, show ¬ i - 32 < 12 by omega]
  · by_cases h32 : i < 32
    · simp [h, h32]
    · simp [h, h32, show i - 32 < 12 by omega]

theorem rd (be : BitVec 4) (offset : BitVec 12) (data : Word) :
    Statement (.rd be offset data) := by
  intro h
  simp only [Instr.wellFormed, fullEnables, Bool.and_eq_true, beq_iff_eq] at h
  obtain ⟨rfl, -⟩ := h
  show transactionWord 0xF#4 false offset data &&& 0x1F00000000000#49 = _
  rw [mask_record]
  decide

theorem wr (be : BitVec 4) (offset : BitVec 12) (data : Word) :
    Statement (.wr be offset data) := by
  intro h
  simp only [Instr.wellFormed, fullEnables, beq_iff_eq] at h
  subst h
  show transactionWord 0xF#4 true offset data &&& 0x1F00000000000#49 = _
  rw [mask_record]
  decide

end Sys2Proof.Laws.RowMatch
end

