-- ==== Sys2Proof/Tests/Slice0.lean ====
section
/-!
SUPPORT. Tests: the well-formedness smoke test, the encodings of R102 and R107 written out, one-step
tests whose results come from 95_test_vectors.md or from the rules by hand, and a witness for the
hypotheses of every obligation that has some.
-/

namespace Sys2Proof.Tests

-- One theorem after the other: `decide +kernel` waits for all earlier proofs, on a thread each.
set_option Elab.async false

open Sys2Proof Sys2Proof.Machine

/-! ### WellFormed: each check refuses an ill-formed term -/

theorem test_wf_rd_needs_full_enables :
    Instr.wellFormed (.rd 0x7#4 0x010#12 0#32) = false ∧
      Instr.wellFormed (.rd 0xF#4 0x010#12 0#32) = true := by decide

theorem test_wf_rd_needs_zero_data : Instr.wellFormed (.rd 0xF#4 0x010#12 1#32) = false := by decide

theorem test_wf_wr_needs_full_enables :
    Instr.wellFormed (.wr 0x0#4 0x020#12 1#32) = false ∧
      Instr.wellFormed (.wr 0xF#4 0x020#12 1#32) = true := by decide

/-! ### Decoding: words written out from R102, R107 and the programs P1 and P6 -/

theorem test_decode_nop : decodeTableWord 32 0x00000000 = some .nop := by decide
theorem test_decode_genMseqA : decodeTableWord 32 0x00000001 = some .genMseqA := by decide
theorem test_decode_genMseqB : decodeTableWord 32 0x00000101 = some .genMseqB := by decide
theorem test_decode_buildGold : decodeTableWord 32 0x00000002 = some .buildGold := by decide
theorem test_decode_spread : decodeTableWord 32 0x00000003 = some .spread := by decide
theorem test_decode_synth : decodeTableWord 32 0x00000004 = some .synth := by decide
theorem test_decode_addNoise : decodeTableWord 32 0x00000005 = some .addNoise := by decide
theorem test_decode_correlate : decodeTableWord 32 0x00000006 = some .correlate := by decide
theorem test_decode_decode : decodeTableWord 32 0x00000007 = some .decode := by decide
theorem test_decode_runPipeline : decodeTableWord 32 0x00000008 = some .runPipeline := by decide

/-- P1 line 2: RD STATUS; P6 line 3: RD ERR_CODE. -/
theorem test_decode_rd :
    decodeTableWord 56 0x1E01000000000 = some (.rd 0xF#4 0x010#12 0#32) ∧
      decodeTableWord 56 0x1E01800000000 = some (.rd 0xF#4 0x018#12 0#32) := by decide

/-- P1 line 1: WR CMD, 1; P6 line 11: WR STATUS, 0x1E. -/
theorem test_decode_wr :
    decodeTableWord 56 0x1F00C00000001 = some (.wr 0xF#4 0x00C#12 1#32) ∧
      decodeTableWord 56 0x1F0100000001E = some (.wr 0xF#4 0x010#12 0x1E#32) := by decide

/-- V67 and P6 lines 8 and 12: an opcode above 8, and reserved bits, are refused by name. -/
theorem test_decode_refuses :
    decodeCommand 0x00000009#32 = .illegal .badOpcode ∧
      decodeCommand 0x000000FF#32 = .illegal .badOpcode ∧
      decodeCommand 0x00000102#32 = .illegal .reservedBits ∧
      decodeCommand 0x00000201#32 = .illegal .reservedBits := by decide

/-- The encoder writes the words of R102 and P6 line 22. -/
theorem test_encode_words :
    encode .genMseqB = .cmd32 0x00000101#32 ∧ encode .runPipeline = .cmd32 0x00000008#32 ∧
      encode (.wr 0xF#4 0x03C#12 0#32) = .t49 0x1F03C00000000#49 := by decide

/-! ### One step on small states -/

/-- Bit i of the packed value is element i, as 95_test_vectors.md packs sequences. -/
def pack (l : List Bool) : Nat := l.foldr (fun b acc => b.toNat + 2 * acc) 0

/-- The next state of a step, if it has one. -/
def stepState (s : State) : Option State :=
  match step s with
  | .next t => some t
  | .fault _ => none
  | .refused _ => none

/-- A block with four input bits at BPS 10 and SPC 2, not yet started. -/
def configured : State := { State.reset with nBits := 4#32, bps := 10#32, spc := 2#32 }

/-- The same with the reference Gold table in place. -/
def withGold : State := goldCommit configured

/-- Two chips, 1 then 0, and the rates BPS 10 and SPC 2. -/
def withChips : State := { configured with chip := ⟨true, [true, false], 2#32⟩ }

/-- A signal of one sample 0.5, host noise of one sample 1.0, and CTRL.NOISE_SRC = 1. -/
def withSample : State :=
  { configured with
    ctrl := ⟨true, false⟩
    sig := ⟨true, [fHalf], [fHalf], [fHalf], [fHalf], 1#32⟩
    mem := ⟨[], [(0, fOne)]⟩ }

/-- Two symbols with five samples in each trace: 0.5 in code 2 at index 1, and 1.0 in codes 0 and 3 at
index 4. -/
def withTraces : State :=
  { configured with
    chip := ⟨true, [], 126#32⟩
    corr :=
      { valid := true, refs := Four.all [], refLen := 124#32, corrLen := 5#32
        traces := ⟨[0#64, 0#64, 0#64, 0#64, fOne], [0#64, 0#64, 0#64, 0#64, 0#64],
          [0#64, fHalf, 0#64, 0#64, 0#64], [0#64, 0#64, 0#64, 0#64, fOne]⟩ } }

/-- V60: NOP from reset leaves STATUS = 2. -/
theorem test_nop_sets_done :
    stepState (State.reset.withFetchWord 32 0x00000000) =
      some { State.reset with status := ⟨true, false, false, false⟩ } := by decide +kernel

/-- V1. -/
theorem test_genMseqA_reference :
    pack (execState .genMseqA State.reset).msa.seq = 0x629E8E4B766AFC10 ∧
      statusWord (execState .genMseqA State.reset) = 0x00000102#32 := by decide +kernel

/-- V5: taps 0x20 leave the register at 0x10. -/
theorem test_genMseqA_period_six :
    (execState .genMseqA { State.reset with tapsA := 0x20#6 }).lfsr = 0x10#6 := by decide +kernel

/-- V2. -/
theorem test_genMseqB_reference :
    pack (execState .genMseqB State.reset).msb.seq = 0x45BF5C6760F254D0 ∧
      statusWord (execState .genMseqB State.reset) = 0x00000202#32 := by decide +kernel

/-- V10: GOLD1 and STATUS after BUILD_GOLD, run as the first thing after reset. -/
theorem test_buildGold_reference :
    let t := execState .buildGold State.reset
    stepState (State.reset.withFetchWord 32 0x00000002) = some t ∧
      pack t.gold.codes.k1 = 0x1FEF13C8BF39BE3D ∧ statusWord t = 0x00000702#32 := by decide +kernel

/-- V9: TAPS_B = 0x3F has period 7, so shifts 0, 7, 14, 21 give equal codes. -/
theorem test_buildGold_not_distinct :
    let t := execState .buildGold { State.reset with tapsB := 0x3F#6, shifts := 0x150E0700#32 }
    t.errCode = 0x070201#24 ∧ t.errInfo = 1#32 ∧ statusWord t = 0x00000006#32 := by decide +kernel

/-- V22 and R172: one bit gives no chips and no error. -/
theorem test_spread_drops_a_lone_bit :
    let t := execState .spread { withGold with nBits := 1#32 }
    t.chip = ⟨true, [], 0#32⟩ ∧ t.status.err = false := by decide +kernel

/-- R171: the bits 1,0 select GOLD1 and 0,1 select GOLD2. -/
theorem test_spread_symbol_order :
    (execState .spread { withGold with mem := ⟨[(0, 1#1), (3, 1#1)], []⟩ }).chip.chips =
      withGold.gold.codes.k1 ++ withGold.gold.codes.k2 := by decide +kernel

/-- R181, R182: with F0 = PHI0 = +0.0, ENV is SIG_I, here 0.5 over 2·SPC = 4 samples; SIG_Q is -0.5. -/
theorem test_synth_zero_carrier :
    (execState .synth withChips).sig =
      ⟨true, List.replicate 4 fHalf, List.replicate 4 (fneg fHalf), List.replicate 4 fHalf,
        List.replicate 4 fHalf, 4#32⟩ := by decide +kernel

/-- V29c: F0 = +infinity. -/
theorem test_synth_infinite_carrier :
    let t := execState .synth { withChips with f0 := 0x7FF0000000000000#64 }
    t.errCode = 0x090401#24 ∧ t.errInfo = 0x7FF00000#32 ∧ t.sig = SigBank.empty := by decide +kernel

/-- R203, R204 by hand: es = 0.25, en = 1, lin = EXP10(-0.0) = 1, so norm = 0.5 and RX = 0.5 + 0.5. -/
theorem test_addNoise_one_sample :
    let t := execState .addNoise withSample
    t.noisy = ⟨true, [fHalf], fHalf⟩ ∧ t.sig.rx = [fOne] ∧ t.sig.env = [fHalf] := by decide +kernel

/-- V34: all-zero noise has no energy; RX stays ENV. -/
theorem test_addNoise_zero_energy :
    let t := execState .addNoise { withSample with mem := ⟨[], []⟩ }
    t.errCode = 0x010503#24 ∧ t.errInfo = 0#32 ∧ t.sig = withSample.sig := by decide +kernel

/-- R221: fewer samples than the reference give empty traces; REF_LEN is 62·SPC. -/
theorem test_correlate_short_signal :
    let t := execState .correlate withSample
    t.corr.traces = Four.all [] ∧ t.corr.refLen = 124#32 ∧ t.corr.corrLen = 0#32 := by
  decide +kernel

/-- V43. -/
theorem test_correlate_needs_a_signal :
    (execState .correlate State.reset).errCode = 0x030604#24 := by decide +kernel

/-- R240 to R246 by hand: L = 5, cbf = 1, startEnd = 2, segments [0,2) and [2,5). The first is code 2,
bits 0,1; the second ties codes 0 and 3, and the later wins, bits 1,1. Against four 0 bits that is
three errors, BER 0.75. -/
theorem test_decode_ties_and_scores :
    (execState .decode withTraces).dec =
      ⟨true, [false, true, true, true], 4#32, 3#32, 4#32, 0x3FE8000000000000#64, 1#32, 124#32,
        2#32⟩ := by decide +kernel

/-- V53 and R241: one symbol gives cbf = 0. -/
theorem test_decode_one_symbol :
    let t := execState .decode { withTraces with chip := ⟨true, [], 63#32⟩ }
    t.errCode = 0x010702#24 ∧ t.errInfo = 0#32 := by decide +kernel

/-- R276: right after reset BPS = 0 is the first failing row (V53's BPS_ZERO order of V29g). -/
theorem test_runPipeline_after_reset :
    let t := execState .runPipeline State.reset
    t.errCode = 0x010401#24 ∧ statusWord t = 0x00000006#32 ∧ t.gold = GoldBank.empty := by
  decide +kernel

/-- R276 row 11: three bits at legal rates fail with cbf = 0 before any stage runs. -/
theorem test_runPipeline_too_few_bits :
    let t := execState .runPipeline { configured with nBits := 3#32 }
    t.errCode = 0x010702#24 ∧ t.errInfo = 0#32 ∧ t.msa = MseqBank.empty := by decide +kernel

/-- R22 and V70. -/
theorem test_rd_id_and_misaligned :
    (execState (.rd 0xF#4 0x000#12 0#32) State.reset).readData = 0x474F4C44#32 ∧
      (execState (.rd 0xF#4 0x002#12 0#32) State.reset).status.aerr = true := by decide +kernel

/-- V71: a reserved buffer reads 0 with AERR. -/
theorem test_rd_reserved_buffer :
    let t := execState (.rd 0xF#4 0x0C8#12 0#32) { State.reset with bufSel := 24#5 }
    t.readData = 0#32 ∧ t.status.aerr = true := by decide +kernel

/-- R48 and P1 line 12: a TAPS_A write clears MSA_V and empties MSEQ_A. -/
theorem test_wr_taps_invalidates :
    stepState ((execState .genMseqA State.reset).withFetchWord 56 0x1F02000000020) =
      some { execState .genMseqA State.reset with tapsA := 0x20#6, msa := MseqBank.empty } := by
  decide +kernel

/-- V65: a CMD write while ERR = 1 is dropped with WERR. -/
theorem test_wr_cmd_while_err :
    execState (.wr 0xF#4 0x00C#12 0#32) { State.reset with status := ⟨true, true, false, false⟩ } =
      { State.reset with status := ⟨true, true, true, false⟩ } := by decide +kernel

/-- A block with GEN_MSEQ A accepted, one write on its way, and then the completion. -/
def inFlight : State :=
  { configured with
    pending := some 1#32, events := [.transaction 0x1F00C00000000#49, .completion] }

/-- V62, LATENCY = 1: a CMD write that falls between acceptance and completion is dropped with WERR. -/
theorem test_latency_one_write :
    stepState inFlight = some
      { configured with
        pending := some 1#32, events := [.completion], status := ⟨false, false, true, false⟩ } := by
  decide +kernel

/-! ### Witnesses: concrete states and operands that meet the hypotheses of each obligation -/

/-- EncodeInvertsDecode: one word of each format. -/
theorem test_witness_EncodeInvertsDecode :
    decode (.cmd32 0x00000101#32) = .instr .genMseqB ∧
      decode (.t49 0x0000000000000#49) = .instr (.rd 0x0#4 0x000#12 0#32) := by decide

/-- CommandDecodingIsTotal: the least and the greatest word of each refused range. -/
theorem test_witness_CommandDecodingIsTotal :
    (8 < (0x00000009#32).toNat % 256 ∧ 8 < (0xFFFFFFFF#32).toNat % 256) ∧
      ((0x00000100#32).toNat % 256 ≤ 8 ∧ 8 < (0x00000100#32).toNat ∧
        0x00000100#32 ≠ 0x00000101#32) ∧
      ((0xFFFFFF08#32).toNat % 256 ≤ 8 ∧ 8 < (0xFFFFFF08#32).toNat ∧
        0xFFFFFF08#32 ≠ 0x00000101#32) := by decide

theorem test_witness_StepRunsThePendingCommand :
    let s := { configured with pending := some 0x00000003#32 }
    let t := { s with events := [.completion, .hardReset 0] }
    (s.pending = some 0x00000003#32 ∧ decodeCommand 0x00000003#32 = .instr .spread ∧
        s.events = []) ∧
      t.pending = some 0x00000003#32 ∧ t.events = .completion :: [.hardReset 0] := by decide

theorem test_witness_StepRunsTheTransaction :
    inFlight.events = .transaction 0x1F00C00000000#49 :: [.completion] := by decide

theorem test_witness_IllegalWordsFailAtCompletion :
    let s := fun w : Word => { configured with pending := some w, events := [.completion] }
    ((s 0x00000009#32).pending = some 0x00000009#32 ∧
        (s 0x00000009#32).events = .completion :: [] ∧ 8 < (0x00000009#32).toNat ∧
        0x00000009#32 ≠ 0x00000101#32) ∧
      ((s 0x00000102#32).pending = some 0x00000102#32 ∧
        (s 0x00000102#32).events = .completion :: [] ∧ 8 < (0x00000102#32).toNat ∧
        0x00000102#32 ≠ 0x00000101#32) := by decide

theorem test_witness_IdleBlockHoldsItsState :
    configured.pending = none ∧ configured.events = [] := by decide

theorem test_witness_ResetsGiveTheResetValues :
    ({ inFlight with events := [.hardReset 7, .completion] } : State).events =
        .hardReset 7 :: [.completion] ∧
      (0x00000001#32).getLsbD 0 = true ∧ (0xFFFFFFFF#32).getLsbD 0 = true := by decide

theorem test_witness_LfsrStepShiftsAndFeedsBack : 0 < 5 ∧ 4 < 5 := by decide

theorem test_witness_OutputsObeyTheRecurrence : 0 + 6 < 63 ∧ 56 + 6 < 63 := by decide

theorem test_witness_SixMaximalTapValues : 0 < 1 ∧ 1 < 63 ∧ 0 < 62 ∧ 62 < 63 := by decide

/-- The shifts of the reset state. -/
def resetShift (k : Fin 4) : Nat := (State.reset.shifts.toNat >>> (8 * k.val)) % 256

/-- The codes of a state's taps and shifts, as the obligations write them. -/
def codeOf (s : State) (k : Fin 4) : List Bool :=
  (List.range 63).map (fun i => xor ((mseq s.tapsA).1.getD i false)
    ((mseq s.tapsB).1.getD ((i + 63 - (s.shifts.toNat >>> (8 * k.val)) % 256) % 63) false))

theorem test_witness_BuildGoldCommitsTheTable :
    (∀ k, resetShift k < 63) ∧ (∀ j k, j < k → resetShift j ≠ resetShift k) ∧
      (∀ j k, j < k → codeOf State.reset j ≠ codeOf State.reset k) := by decide +kernel

/-- BuildGoldRefusesBadTables: shift 3 is 63 and the others are below; shifts 2 and 3 are the only equal
pair; and V9, whose codes 0 and 1 are the first equal pair. -/
theorem test_witness_BuildGoldRefusesBadTables :
    let f := fun (w : Nat) (k : Fin 4) => (w >>> (8 * k.val)) % 256
    let s := { State.reset with tapsB := 0x3F#6, shifts := 0x150E0700#32 }
    (63 ≤ f 0x3F140A3E 3 ∧ ∀ j, j < 3 → f 0x3F140A3E j < 63) ∧
      ((∀ k, f 0x14140A00 k < 63) ∧ f 0x14140A00 2 = f 0x14140A00 3 ∧
        ∀ p : Fin 4 × Fin 4, p.1 < p.2 ∧ (p.1 < 2 ∨ (p.1 = 2 ∧ p.2 < 3)) →
          f 0x14140A00 p.1 ≠ f 0x14140A00 p.2) ∧
      ((∀ k, f s.shifts.toNat k < 63) ∧
        (∀ j k : Fin 4, j < k → f s.shifts.toNat j ≠ f s.shifts.toNat k) ∧
        codeOf s 0 = codeOf s 1 ∧
        ∀ p : Fin 4 × Fin 4, p.1 < p.2 ∧ (p.1 < 0 ∨ (p.1 = 0 ∧ p.2 < 1)) →
          codeOf s p.1 ≠ codeOf s p.2) := by decide +kernel

/-- SpreadLaysOutTheCodes: the least and the greatest bit count. -/
theorem test_witness_SpreadLaysOutTheCodes :
    withGold.gold.valid = true ∧ (∀ k, (withGold.gold.codes.get k).length = 63) ∧
      (1 ≤ (1#32).toNat ∧ (1#32).toNat ≤ withGold.maxBits.toNat) ∧
      (1 ≤ (4096#32).toNat ∧ (4096#32).toNat ≤ withGold.maxBits.toNat) ∧
      0 < withGold.nBits.toNat / 2 ∧ 62 < 63 := by decide +kernel

theorem test_witness_SpreadRefusesBadInput :
    let none : State := { withGold with nBits := 0#32 }
    let many : State := { withGold with nBits := 4097#32 }
    State.reset.gold.valid = false ∧ (none.gold.valid = true ∧ none.nBits = 0#32) ∧
      (many.gold.valid = true ∧ many.nBits ≠ 0#32 ∧ many.maxBits.toNat < many.nBits.toNat) := by
  decide +kernel

/-- SynthModulatesTheChips: also with N_SAMP just at MAX_SAMPLES. -/
theorem test_witness_SynthModulatesTheChips :
    let full := { withChips with maxSamples := 4#32 }
    withChips.chip.valid = true ∧ withChips.bps ≠ 0#32 ∧ 2 ≤ withChips.spc.toNat ∧
      finite withChips.f0 = true ∧ finite withChips.phi0 = true ∧
      2 * withChips.spc.toNat * (withChips.chip.nChips.toNat / 2) ≤ withChips.maxSamples.toNat ∧
      2 * full.spc.toNat * (full.chip.nChips.toNat / 2) ≤ full.maxSamples.toNat ∧
      0 < withChips.chip.nChips.toNat / 2 ∧ 3 < 2 * withChips.spc.toNat := by decide +kernel

/-- SynthRefusesBadParameters: each row in turn is the first that holds. -/
theorem test_witness_SynthRefusesBadParameters :
    let first := fun s : State =>
      [!s.chip.valid, s.bps == 0#32, decide (s.spc.toNat < 2), !finite s.f0, !finite s.phi0,
        decide (s.maxSamples.toNat < 2 * s.spc.toNat * (s.chip.nChips.toNat / 2))].findIdx?
        (fun b => b)
    first State.reset = some 0 ∧ first { withChips with bps := 0#32 } = some 1 ∧
      first { withChips with spc := 1#32 } = some 2 ∧
      first { withChips with f0 := 0x7FF0000000000000#64 } = some 3 ∧
      first { withChips with phi0 := 0x7FF8000000000000#64 } = some 4 ∧
      first { withChips with maxSamples := 3#32 } = some 5 := by decide +kernel

/-- AddNoiseScalesAndAdds, at the one-sample state. -/
theorem test_witness_AddNoiseScalesAndAdds :
    let s := withSample
    let g := [fOne]
    let es := (s.sig.env.map (fun x => fmul x x)).foldl fadd 0#64
    let en := (g.map (fun x => fmul x x)).foldl fadd 0#64
    let norm := fsqrt (fdiv (fmul (exp10Of (fdiv (fneg s.snrDb) fTen)) es) en)
    s.sig.valid = true ∧ s.sig.env.length = s.sig.nSamp.toNat ∧
      ((List.range s.sig.nSamp.toNat).map (fun k =>
        if s.ctrl.noiseSrc then readNraw s k
        else fdiv (((List.range 12).map
          (fun d => uniformDraw (s.noiseState + 12 * k + d))).foldl fadd 0#64) fTwelve) = g) ∧
      (∀ x ∈ g, finite x = true) ∧ feq en 0#64 = false ∧ finite norm = true ∧
      ∀ x ∈ List.zipWith fadd s.sig.env (g.map (fun x => fmul x norm)), finite x = true :=
  ⟨rfl, rfl, by decide +kernel, List.all_eq_true.mp (by decide +kernel), by decide +kernel,
    by decide +kernel, List.all_eq_true.mp (by decide +kernel)⟩

/-- AddNoiseRefusesBadNumbers: no signal; a first sample that is infinite; no energy; and an envelope
whose energy overflows, so that norm is infinite. -/
theorem test_witness_AddNoiseRefusesBadNumbers :
    let inf : State := { withSample with mem := ⟨[], [(0, 0x7FF0000000000000#64)]⟩ }
    let zero : State := { withSample with mem := ⟨[], []⟩ }
    let loud : State := { withSample with
      sig := { withSample.sig with env := [0x7FE0000000000000#64] } }
    State.reset.sig.valid = false ∧
      (inf.sig.valid = true ∧ gaussianSamples inf 1 = [0x7FF0000000000000#64] ∧
        finite 0x7FF0000000000000#64 = false) ∧
      (zero.sig.valid = true ∧ gaussianSamples zero 1 = [0#64] ∧ finite 0#64 = true ∧
        feq (energy [0#64]) 0#64 = true) ∧
      (loud.sig.valid = true ∧ gaussianSamples loud 1 = [fOne] ∧ finite fOne = true ∧
        feq (energy [fOne]) 0#64 = false ∧ finite (gaussNorm [fOne] loud) = false) := by
  decide +kernel

/-- NrawPathIgnoresTheNoiseSource: any instruction has a next state. -/
theorem test_witness_NrawPathIgnoresTheNoiseSource :
    withSample.ctrl.noiseSrc = true ∧
      exec .addNoise withSample = .next (execState .addNoise withSample) ∧
      exec (.wr 0xF#4 0x008#12 1#32) withSample =
        .next (execState (.wr 0xF#4 0x008#12 1#32) withSample) :=
  ⟨rfl, exec_eq_execState _ _, exec_eq_execState _ _⟩

/-- The state after ADD_NOISE on the one-sample state. -/
def withNoise : State := execState .addNoise withSample

theorem test_witness_AddNoiseIsRepeatable :
    (withSample.ctrl.noiseSrc = true ∧ withSample.sig.valid = true ∧
        withSample.status.err = false) ∧
      exec .addNoise withSample = .next withNoise ∧ withNoise.status.err = false ∧
      exec .addNoise withNoise = .next (execState .addNoise withNoise) :=
  ⟨by decide, exec_eq_execState _ _, by decide +kernel, exec_eq_execState _ _⟩

/-- CorrelateMatchesTheReferences: 125 samples against references of 124 leave two trace samples. -/
def withSignal : State :=
  { withGold with sig := ⟨true, [], [], [], List.replicate 125 fHalf, 125#32⟩ }

theorem test_witness_CorrelateMatchesTheReferences :
    withSignal.sig.valid = true ∧ withSignal.sig.rx.length = withSignal.sig.nSamp.toNat ∧
      62 * withSignal.spc.toNat ≤ withSignal.maxSamples.toNat ∧
      (61 < 62 ∧ 1 < withSignal.spc.toNat) ∧
      1 < withSignal.sig.nSamp.toNat + 1 - 62 * withSignal.spc.toNat := by decide +kernel

theorem test_witness_CorrelateRefusesBadInput :
    let small := { withSignal with maxSamples := 123#32 }
    State.reset.sig.valid = false ∧ small.sig.valid = true ∧
      small.maxSamples.toNat < 62 * small.spc.toNat := by decide +kernel

/-- SegmentsTileTheTrace: the least lengths, and V52's schedule, whose two segments are consecutive. -/
theorem test_witness_SegmentsTileTheTrace :
    (2 ≤ 2 ∧ 0 < 1 ∧ 0 < 1 ∧ segments 2 0 1 1 = [(0, 2)]) ∧
      (2 ≤ 129 ∧ 0 < 124 ∧ 0 < 64 ∧ segments 129 1 124 64 = [(0, 64), (64, 129)] ∧
        128 < 129) := by decide

theorem test_witness_OneSegmentPerSymbol : (2 ≤ 2 ∧ 2 ≤ 2) ∧ 2 ≤ 3 ∧ 2 ≤ 100 := by decide

/-- DecisionTakesTheLargestMaximum: the second segment of the small traces, where codes 0 and 3 tie. -/
theorem test_witness_DecisionTakesTheLargestMaximum :
    2 < 5 ∧ (∀ k : Fin 4, 5 ≤ (withTraces.corr.traces.get k).length) ∧
      (∀ k : Fin 4, ∀ x ∈ withTraces.corr.traces.get k, fIsNaN x = false) ∧
      (2 ≤ 4 ∧ 4 < 5 ∧ (withTraces.corr.traces.get 0)[4]? = some fOne) ∧
      decideSegment withTraces.corr.traces 2 5 = 3 :=
  ⟨by decide, by decide, fun k x h => by
    have ht : ∀ k : Fin 4, ((withTraces.corr.traces.get k).all (fun x => !fIsNaN x)) = true := by
      decide +kernel
    simpa using List.all_eq_true.mp (ht k) x h, by decide, by decide +kernel⟩

theorem test_witness_DecodeCommitsTheDecision :
    let s := withTraces
    let startEnd := Int.tdiv ((s.corr.corrLen.toNat : Int) - (62 * s.spc.toNat : Nat) *
      ((s.chip.nChips.toNat / 63 : Nat) - 1 - 1) - 1) 2
    s.corr.valid = true ∧ 2 ≤ s.chip.nChips.toNat / 63 ∧ 0 < startEnd ∧
      segments s.corr.corrLen.toNat (s.chip.nChips.toNat / 63 - 1) (62 * s.spc.toNat)
        startEnd.toNat = [(0, 2), (2, 5)] := by decide +kernel

/-- DecodeRefusesDegenerateInput: no traces; 0 and 1 symbols; a trace of one sample, whose startEnd is 0;
and a trace of four, which two symbols cut into three segments. -/
theorem test_witness_DecodeRefusesDegenerateInput :
    let short := fun n : Word =>
      { withTraces with corr := { withTraces.corr with corrLen := n } }
    let startEnd := fun s : State =>
      Int.tdiv ((s.corr.corrLen.toNat : Int) - (62 * s.spc.toNat : Nat) *
        ((s.chip.nChips.toNat / 63 : Nat) - 1 - 1) - 1) 2
    State.reset.corr.valid = false ∧ withTraces.corr.valid = true ∧
      ((0#32).toNat / 63 < 2 ∧ (125#32).toNat / 63 < 2) ∧
      ((short 1#32).corr.valid = true ∧ 2 ≤ (short 1#32).chip.nChips.toNat / 63 ∧
        startEnd (short 1#32) = 0) ∧
      ((short 4#32).corr.valid = true ∧ 2 ≤ (short 4#32).chip.nChips.toNat / 63 ∧
        startEnd (short 4#32) = 1 ∧ (segments 4 1 124 1).length = 3) := by decide +kernel

/-- The reset state, configured, is coherent. -/
theorem configured_coherent : Coherent configured :=
  ⟨⟨clear_flag, clear_flag, clear_flag, clear_flag, clear_flag, clear_flag⟩,
    ⟨fun _ => rfl, fun _ => rfl, fun _ => rfl, fun _ => rfl, fun _ => rfl, fun _ => rfl,
      fun _ => rfl, fun _ => rfl⟩,
    ⟨clear_flag, clear_flag, clear_flag, clear_flag, clear_flag, fun _ => rfl, clear_flag,
      clear_flag, clear_flag⟩⟩

/-- The configured block after the stages up to CORRELATE. -/
def correlated : State := correlateCommit (synthCommit (spreadCommit withGold))

/-- The stages before DECODE commit on the configured block. -/
theorem correlated_stages :
    buildGold configured = .committed withGold ∧
      spread withGold = .committed (spreadCommit withGold) ∧
      synth (spreadCommit withGold) = .committed (synthCommit (spreadCommit withGold)) ∧
      correlate (synthCommit (spreadCommit withGold)) = .committed correlated := by
  refine ⟨?_, ?_, ?_, ?_⟩
  · have h : shiftRangeError configured = none ∧ shiftDupError configured = none ∧
        goldDupError (goldTable configured) = none := by decide +kernel
    rw [buildGold, h.1, h.2.1, h.2.2]
    rfl
  · rw [spread, if_neg (by decide), if_neg (by decide), if_neg (by decide)]
  · have h : signalConfigError (spreadCommit withGold) (spreadCommit withGold).chip.nChips.toNat =
        none := by decide +kernel
    rw [synth, if_neg (by decide), h]
  · rw [correlate, if_neg (by decide), if_neg (by decide)]
    rfl

theorem test_witness_DecodeNeverDegenerate :
    Coherent correlated ∧ correlated.corr.valid = true ∧ 4 ≤ correlated.nBits.toNat ∧
      63 * (correlated.nBits.toNat / 2) < 2 ^ 32 := by
  obtain ⟨h1, h2, h3, h4⟩ := correlated_stages
  refine ⟨?_, rfl, by decide, by decide⟩
  have g1 := buildGold_coherent configured_coherent
  rw [h1] at g1
  have g2 := spread_coherent (s := withGold) g1
  rw [h2] at g2
  have g3 := synth_coherent (s := spreadCommit withGold) g2
  rw [h3] at g3
  have g4 := correlate_coherent (s := synthCommit (spreadCommit withGold)) g3
  rw [h4] at g4
  exact g4

/-- PrechecksFailFirst: rows 1, 6, 12's neighbours: BPS = 0; too many bits; cbf below 1. -/
theorem test_witness_PrechecksFailFirst :
    let many : State := { configured with nBits := 4097#32 }
    (State.reset.bps == 0#32) = true ∧
      ((many.bps == 0#32) = false ∧ ¬ many.spc.toNat < 2 ∧ finite many.f0 = true ∧
        finite many.phi0 = true ∧ many.nBits ≠ 0#32 ∧ many.maxBits.toNat < many.nBits.toNat) ∧
      precheckError { configured with nBits := 3#32 } = some (.cbfLt1 0) ∧
      precheckError { configured with shifts := 0x3F140A00#32 } =
        some (.shiftRange 3 0x3F#8) ∧
      precheckError { configured with shifts := 0x14140A00#32 } = some (.shiftDup 2 3) ∧
      precheckError { configured with maxSamples := 251#32 } =
        some (.samplesRange 0x04#8 252) := by decide +kernel

theorem test_witness_RunPipelineCompletes :
    let s := configured
    s.bps ≠ 0#32 ∧ 2 ≤ s.spc.toNat ∧ finite s.f0 = true ∧ finite s.phi0 = true ∧
      4 ≤ s.nBits.toNat ∧ s.nBits.toNat ≤ s.maxBits.toNat ∧ shiftRangeError s = none ∧
      shiftDupError s = none ∧ goldDupError (goldTable s) = none ∧
      2 * s.spc.toNat * (63 * (s.nBits.toNat / 2) / 2) ≤ s.maxSamples.toNat ∧
      62 * s.spc.toNat ≤ s.maxSamples.toNat ∧ s.ctrl.applyNoise = false := by decide +kernel

theorem test_witness_RunPipelineFailsOnlyTwoWays :
    precheckError configured = none ∧
      exec .runPipeline configured = .next (execState .runPipeline configured) :=
  ⟨by decide +kernel, exec_eq_execState _ _⟩

/-- PortReadsTheSelectedElement: NRAW's first cell, and BITS just past MAX_BITS. -/
theorem test_witness_PortReadsTheSelectedElement :
    let s := { withSample with bufSel := 11#5 }
    let t := { withSample with bufSel := 0#5, bufIndex := 4096#32 }
    (s.bufIndex.toNat < s.maxSamples.toNat ∧ readNraw s s.bufIndex.toNat = fOne) ∧
      ¬ t.bufIndex.toNat < t.maxBits.toNat ∧ (t.bufSel ≠ s.bufSel ∧ 24 ≤ (24#5).toNat) := by
  decide +kernel

/-- BadAccessesOnlySetAerr: each kind of bad access. -/
theorem test_witness_BadAccessesOnlySetAerr :
    0x7#4 ≠ 0xF#4 ∧ (0x002#12).toNat % 4 ≠ 0 ∧ 0x100 ≤ (0x100#12).toNat ∧
      (0x03C#12).toNat ∈ [0x03C, 0x07C, 0x09C, 0x0A8, 0x0AC, 0x0B0, 0x0B4, 0x0B8, 0x0BC] ∧
      0x0D4 ≤ (0x0D4#12).toNat := by decide

theorem test_witness_ReadsAreIdempotent :
    exec (.rd 0xF#4 0x002#12 0#32) configured =
        .next (execState (.rd 0xF#4 0x002#12 0#32) configured) ∧
      exec (.rd 0xF#4 0x010#12 0#32) configured =
        .next (execState (.rd 0xF#4 0x010#12 0#32) configured) :=
  ⟨exec_eq_execState _ _, exec_eq_execState _ _⟩

theorem test_witness_ConfigurationWritesInvalidate :
    withSample.pending = none ∧ (0xFFFFFFFE#32).getLsbD 0 = false := by decide

theorem test_witness_ReadOnlyWritesSetWerr :
    withSample.pending = none ∧
      (0x000#12).toNat ∈ [0x000, 0x004, 0x018, 0x01C, 0x02C, 0x060, 0x064, 0x068, 0x06C, 0x070,
        0x074, 0x078, 0x080, 0x084, 0x088, 0x08C, 0x090, 0x094, 0x098, 0x0A0, 0x0A4, 0x0D0] := by
  decide

/-- WritesWhileBusyAreDropped: the last mapped offset, and CTRL with bit 0 clear. -/
theorem test_witness_WritesWhileBusyAreDropped :
    inFlight.pending ≠ none ∧
      ((0x0D0#12).toNat % 4 = 0 ∧ (0x0D0#12).toNat < 0xD4 ∧
        (0x0D0#12).toNat ∉ [0x03C, 0x07C, 0x09C, 0x0A8, 0x0AC, 0x0B0, 0x0B4, 0x0B8, 0x0BC] ∧
        ¬ (0x0D0#12 = 0x008#12 ∧ (1#32).getLsbD 0 = true)) ∧
      ((0x008#12).toNat % 4 = 0 ∧ ¬ (0x008#12 = 0x008#12 ∧ (2#32).getLsbD 0 = true)) := by decide

theorem test_witness_CommandWritesAreAcceptedOrDropped :
    (configured.pending = none ∧ configured.status.err = false) ∧ inFlight.pending ≠ none ∧
      ({ configured with status := ⟨true, true, false, false⟩ } : State).status.err = true := by
  decide

theorem test_witness_StatusWritesClearByOnes : configured.pending = none := by decide

/-- PortWritesOneCell: the last cell of each RAM, the first index past it, and the three kinds of other
buffer. -/
theorem test_witness_PortWritesOneCell :
    let s := fun (sel : BitVec 5) (k : Word) => { withSample with bufSel := sel, bufIndex := k }
    ((s 0#5 0#32).pending = none ∧ (s 0#5 0#32).mem.wf = true) ∧
      ((s 0#5 4095#32).bufIndex.toNat < (s 0#5 4095#32).maxBits.toNat ∧
        (s 0#5 4096#32).maxBits.toNat ≤ (s 0#5 4096#32).bufIndex.toNat) ∧
      ((s 11#5 1048575#32).bufIndex.toNat < (s 11#5 1048575#32).maxSamples.toNat ∧
        (s 11#5 1048576#32).maxSamples.toNat ≤ (s 11#5 1048576#32).bufIndex.toNat) ∧
      24 ≤ (24#5).toNat ∧ ((23#5).toNat < 24 ∧ 23#5 ≠ 0#5 ∧ 23#5 ≠ 11#5) := by decide +kernel

theorem test_witness_InterruptLineFollowsTheCauses :
    let s := { configured with irqEn := ⟨true, false⟩ }
    isCommand .nop = true ∧ exec .nop s = .next (execState .nop s) ∧ s.irqEn.doneIe = true :=
  ⟨rfl, exec_eq_execState _ _, rfl⟩

theorem test_witness_CommandsKeepTheHostSide : isCommand .runPipeline = true := by decide

/-- ErrorsArePrecise: SPREAD after reset fails. -/
theorem test_witness_ErrorsArePrecise :
    (isCommand .spread = true ∧ Instr.spread ≠ .addNoise ∧ Instr.spread ≠ .runPipeline) ∧
      State.reset.status.err = false ∧
      exec .spread State.reset = .next (execState .spread State.reset) ∧
      (execState .spread State.reset).status.err = true :=
  ⟨by decide, rfl, exec_eq_execState _ _, by decide +kernel⟩

/-- ErrorsStayUntilCleared: an idle block with an error, before a STATUS write of bit 2. -/
theorem test_witness_ErrorsStayUntilCleared :
    let s := { execState .spread State.reset with
      events := [.transaction 0x1F01000000004#49] }
    (∃ t, step s = .next t) ∧ s.status.err = true ∧ s.pending = none :=
  ⟨exec_next (decodeTransaction 0x1F01000000004#49) _, by decide +kernel, by decide +kernel⟩

theorem test_witness_NoStageReadsTheAmplitude :
    isCommand .decode = true ∧ exec .decode withTraces = .next (execState .decode withTraces) :=
  ⟨rfl, exec_eq_execState _ _⟩

theorem test_witness_SmallIntegersAreExact : 0 ≤ 2 ^ 53 ∧ 2 ^ 53 ≤ 2 ^ 53 := by decide

/-- StepKeepsMemoryGood: a block whose next step writes the last cell of BITS. -/
theorem test_witness_StepKeepsMemoryGood :
    let s := { withSample with
      bufIndex := 4095#32, events := [.transaction 0x1F0C800000001#49] }
    MemoryGood s ∧ ∃ t, step s = .next t :=
  ⟨⟨by decide +kernel, by decide +kernel, by decide +kernel⟩,
    exec_next (decodeTransaction 0x1F0C800000001#49) _⟩

/-- StepKeepsHandshake: a block with a command in flight, before its completion. -/
theorem test_witness_StepKeepsHandshake :
    let s := { configured with pending := some 0x00000009#32, events := [.completion] }
    Handshake s ∧ ∃ t, step s = .next t :=
  ⟨⟨fun _ => ⟨rfl, rfl⟩, clear_flag, fun _ => ⟨rfl, rfl⟩⟩, ⟨_, rfl⟩⟩

/-- StepKeepsCoherent: the configured block, about to run BUILD_GOLD's completion. -/
theorem test_witness_StepKeepsCoherent :
    Coherent configured ∧ ∃ t, step configured = .next t :=
  ⟨configured_coherent, ⟨_, rfl⟩⟩

end Sys2Proof.Tests
end

/-!
PROOFS. The scope of the model: the state it starts from (R55, R7), and the integers that f64(n)
represents exactly (R11).
-/

namespace Sys2Proof.Proofs

open Sys2Proof Sys2Proof.Machine

/-! ### The start state -/

/-- R317: an idle block with no event left holds its state. -/
theorem step_of_idle {s : State} (hevents : s.events = []) (hpending : s.pending = none) :
    step s = .next s := by
  simp only [step, hevents, runPending, hpending]

/-- Settles O11: each register is read off the reset state, and the reset state is idle. -/
theorem startStateReads : Obligations.StartStateReads := by
  have hidle : step State.reset = .next State.reset := step_of_idle rfl rfl
  exact ⟨rfl, rfl, rfl, rfl, rfl, rfl, rfl, rfl, rfl, rfl, hidle⟩

/-! ### The fields of an encoding -/

/-- The encoding with this sign whose exponent and fraction fields, as one number, are `code`. -/
def f64OfCode (neg : Bool) (code : Nat) : F64 := BitVec.ofBool neg ++ BitVec.ofNat 63 code

theorem toNat_f64OfCode (neg : Bool) (code : Nat) :
    (f64OfCode neg code).toNat = 2 ^ 63 * neg.toNat + code % 2 ^ 63 := by
  rw [f64OfCode, BitVec.toNat_append, Nat.shiftLeft_eq, mul_comm,
    ← Nat.two_pow_add_eq_or_of_lt (BitVec.ofNat 63 code).isLt, BitVec.toNat_ofBool,
    BitVec.toNat_ofNat]

@[simp] theorem fNeg_f64OfCode (neg : Bool) (code : Nat) : fNeg (f64OfCode neg code) = neg := by
  have hcode : code % 2 ^ 63 < 2 ^ 63 := Nat.mod_lt _ (by positivity)
  rw [fNeg, BitVec.msb_eq_decide, toNat_f64OfCode]
  cases neg
  case false => simp only [Bool.toNat_false, decide_eq_false_iff_not]; omega
  case true => simp only [Bool.toNat_true, decide_eq_true_iff]; omega

@[simp] theorem fExp_f64OfCode (neg : Bool) (code : Nat) :
    fExp (f64OfCode neg code) = code / 2 ^ 52 % 2 ^ 11 := by
  rw [fExp, BitVec.extractLsb'_toNat, toNat_f64OfCode, Nat.shiftRight_eq_div_pow]
  omega

@[simp] theorem fFrac_f64OfCode (neg : Bool) (code : Nat) :
    fFrac (f64OfCode neg code) = code % 2 ^ 52 := by
  rw [fFrac, BitVec.extractLsb'_toNat, toNat_f64OfCode, Nat.shiftRight_eq_div_pow]
  omega

section Normal

variable {mant k : Nat}

/-- A 53-bit significand added on top of `k` in the exponent field carries its leading bit into the
field, which then reads `k + 1`. -/
theorem fExp_f64OfCode_normal (neg : Bool) (hlow : 2 ^ 52 ≤ mant) (hhigh : mant < 2 ^ 53)
    (hk : k < 2046) : fExp (f64OfCode neg (mant + k * 2 ^ 52)) = k + 1 := by
  rw [fExp_f64OfCode]
  omega

theorem finite_f64OfCode_normal (neg : Bool) (hlow : 2 ^ 52 ≤ mant) (hhigh : mant < 2 ^ 53)
    (hk : k < 2046) : finite (f64OfCode neg (mant + k * 2 ^ 52)) = true := by
  have hexp := fExp_f64OfCode_normal neg hlow hhigh hk
  simp only [finite, hexp, bne_iff_ne]
  omega

theorem fMant_f64OfCode_normal (neg : Bool) (hlow : 2 ^ 52 ≤ mant) (hhigh : mant < 2 ^ 53)
    (hk : k < 2046) : fMant (f64OfCode neg (mant + k * 2 ^ 52)) = mant := by
  have hexp := fExp_f64OfCode_normal neg hlow hhigh hk
  rw [fMant, hexp, if_neg (Nat.succ_ne_zero k), fFrac_f64OfCode]
  omega

theorem fScale_f64OfCode_normal (neg : Bool) (hlow : 2 ^ 52 ≤ mant) (hhigh : mant < 2 ^ 53)
    (hk : k < 2046) : fScale (f64OfCode neg (mant + k * 2 ^ 52)) = k - 1074 := by
  have hexp := fExp_f64OfCode_normal neg hlow hhigh hk
  simp only [fScale, hexp]
  omega

end Normal

/-! ### Exact integers -/

theorem log2_le_of_lt_two_pow_53 {n : Nat} (hpos : n ≠ 0) (hn : n < 2 ^ 53) : n.log2 ≤ 52 :=
  Nat.le_of_lt_succ ((Nat.log2_lt hpos).2 hn)

/-- Shifted up until its leading bit stands at place 52, a positive number below 2^53 is a 53-bit
significand. -/
theorem normalized_bounds {n : Nat} (hpos : n ≠ 0) (hn : n < 2 ^ 53) :
    2 ^ 52 ≤ n * 2 ^ (52 - n.log2) ∧ n * 2 ^ (52 - n.log2) < 2 ^ 53 := by
  have hlog : n.log2 ≤ 52 := log2_le_of_lt_two_pow_53 hpos hn
  have hsum : n.log2 + (52 - n.log2) = 52 := by omega
  constructor
  · calc 2 ^ 52 = 2 ^ n.log2 * 2 ^ (52 - n.log2) := by rw [← pow_add, hsum]
      _ ≤ n * 2 ^ (52 - n.log2) := Nat.mul_le_mul_right _ (Nat.log2_self_le hpos)
  · calc n * 2 ^ (52 - n.log2) < 2 ^ (n.log2 + 1) * 2 ^ (52 - n.log2) :=
          Nat.mul_lt_mul_of_pos_right Nat.lt_log2_self (by positivity)
      _ = 2 ^ 53 := by rw [← pow_add]; congr 1; omega

/-- Below 2^53 nothing is rounded: the significand is `n` shifted up, the exponent field one more
than `1022 + log2 n`. -/
theorem f64OfNat_eq_f64OfCode {n : Nat} (hpos : n ≠ 0) (hn : n < 2 ^ 53) :
    f64OfNat n = f64OfCode false (n * 2 ^ (52 - n.log2) + (1022 + n.log2) * 2 ^ 52) := by
  have hlog : n.log2 ≤ 52 := log2_le_of_lt_two_pow_53 hpos hn
  obtain ⟨-, hhigh⟩ := normalized_bounds hpos hn
  have hunit : max ((0 : Int) + n.log2 - 52) (-1074) = n.log2 - 52 := by omega
  have hshift : ((0 : Int) - (n.log2 - 52)).toNat = 52 - n.log2 := by omega
  have hfield : ((n.log2 : Int) - 52 + 1074).toNat = 1022 + n.log2 := by omega
  have hnoRound : (n.log2 : Int) - 52 ≤ 0 := by omega
  have hrange : n * 2 ^ (52 - n.log2) + (1022 + n.log2) * 2 ^ 52 < 0x7FF * 2 ^ 52 := by omega
  simp only [f64OfNat, roundPack, f64OfCode, if_neg hpos, hunit, if_pos hnoRound, hshift, hfield,
    if_pos hrange]

/-- The encoding `a` has exactly the value `n`, as a finite and not negative f64. -/
def IsExactly (a : F64) (n : Nat) : Prop :=
  finite a = true ∧ fNeg a = false ∧ (fMant a : Rat) * 2 ^ fScale a = n

theorem f64OfNat_zero_isExactly : IsExactly (f64OfNat 0) 0 := by
  have hcode : f64OfNat 0 = f64OfCode false 0 := rfl
  rw [hcode]
  simp [IsExactly, finite, fMant]

theorem f64OfNat_isExactly {n : Nat} (hpos : n ≠ 0) (hn : n < 2 ^ 53) :
    IsExactly (f64OfNat n) n := by
  obtain ⟨hlow, hhigh⟩ := normalized_bounds hpos hn
  have hlog : n.log2 ≤ 52 := log2_le_of_lt_two_pow_53 hpos hn
  have hk : 1022 + n.log2 < 2046 := by omega
  rw [f64OfNat_eq_f64OfCode hpos hn]
  refine ⟨finite_f64OfCode_normal _ hlow hhigh hk, fNeg_f64OfCode _ _, ?_⟩
  have hscale : (((1022 + n.log2 : Nat) : Int) - 1074) = -((52 - n.log2 : Nat) : Int) := by omega
  rw [fMant_f64OfCode_normal _ hlow hhigh hk, fScale_f64OfCode_normal _ hlow hhigh hk, hscale,
    zpow_neg, zpow_natCast, Nat.cast_mul, Nat.cast_pow, Nat.cast_ofNat]
  exact mul_inv_cancel_right₀ (by positivity) _

/-- 2^53 has 54 bits: rounding drops its lowest bit, which is 0. -/
theorem f64OfNat_two_pow_53_isExactly : IsExactly (f64OfNat (2 ^ 53)) (2 ^ 53) := by
  have hcode : f64OfNat (2 ^ 53) = f64OfCode false (2 ^ 52 + 1075 * 2 ^ 52) := by decide +kernel
  rw [hcode]
  refine ⟨finite_f64OfCode_normal _ le_rfl (by decide) (by decide), fNeg_f64OfCode _ _, ?_⟩
  rw [fMant_f64OfCode_normal _ le_rfl (by decide) (by decide),
    fScale_f64OfCode_normal _ le_rfl (by decide) (by decide)]
  norm_num

/-- Settles O56, by the three ranges of n: 0 is the code 0, below 2^53 nothing is rounded, and at
2^53 rounding drops a 0. -/
theorem smallIntegersAreExact : Obligations.SmallIntegersAreExact := by
  intro n hn
  obtain rfl | hpos := eq_or_ne n 0
  · exact f64OfNat_zero_isExactly
  obtain rfl | hlt := hn.eq_or_lt
  · exact f64OfNat_two_pow_53_isExactly
  · exact f64OfNat_isExactly hpos hlt

end Sys2Proof.Proofs

/-!
PROOFS. The host's transactions: the register map read backwards, what a read and a write do at a
mapped and at an unmapped offset, the buffer port's reads (R76), and the two resets (R340, R341).
-/

namespace Sys2Proof.Proofs

open Sys2Proof Sys2Proof.Machine

/-! ### The register map, from register to offset (R23) -/

/-- The byte offset of a register (R23). -/
def regOffset (r : Reg) : BitVec 12 :=
  match r with
  | .id => 0x000#12
  | .version => 0x004#12
  | .ctrl => 0x008#12
  | .cmd => 0x00C#12
  | .status => 0x010#12
  | .irqEn => 0x014#12
  | .errCode => 0x018#12
  | .errInfo => 0x01C#12
  | .tapsA => 0x020#12
  | .tapsB => 0x024#12
  | .shifts => 0x028#12
  | .lfsrState => 0x02C#12
  | .nBits => 0x030#12
  | .bps => 0x034#12
  | .spc => 0x038#12
  | .f0Lo => 0x040#12
  | .f0Hi => 0x044#12
  | .phi0Lo => 0x048#12
  | .phi0Hi => 0x04C#12
  | .snrDbLo => 0x050#12
  | .snrDbHi => 0x054#12
  | .a0Lo => 0x058#12
  | .a0Hi => 0x05C#12
  | .nChips => 0x060#12
  | .nSamp => 0x064#12
  | .refLen => 0x068#12
  | .corrLen => 0x06C#12
  | .nDec => 0x070#12
  | .berErrs => 0x074#12
  | .berDen => 0x078#12
  | .berLo => 0x080#12
  | .berHi => 0x084#12
  | .normLo => 0x088#12
  | .normHi => 0x08C#12
  | .decCbf => 0x090#12
  | .decInterval => 0x094#12
  | .decStartEnd => 0x098#12
  | .maxBits => 0x0A0#12
  | .maxSamples => 0x0A4#12
  | .bufSel => 0x0C0#12
  | .bufIndex => 0x0C4#12
  | .bufDataLo => 0x0C8#12
  | .bufDataHi => 0x0CC#12
  | .bufLen => 0x0D0#12

theorem regAt_regOffset (r : Reg) : regAt (regOffset r).toNat = some r := by
  cases r <;> rfl

theorem eq_regOffset_of_regAt {n : Nat} {r : Reg} (h : regAt n = some r) :
    n = (regOffset r).toNat := by
  unfold regAt at h
  split at h <;> cases h <;> rfl

/-- A transaction reaches a register exactly with all byte enables at the register's offset. -/
theorem target_eq_some {be : BitVec 4} {offset : BitVec 12} {r : Reg} :
    target be offset = some r ↔ be = 0xF#4 ∧ offset = regOffset r := by
  have haligned : (regOffset r).toNat % 4 = 0 := by cases r <;> rfl
  constructor
  · intro h
    unfold target at h
    split at h
    case isTrue hfull => exact ⟨hfull.1, BitVec.eq_of_toNat_eq (eq_regOffset_of_regAt h)⟩
    case isFalse => cases h
  · rintro ⟨rfl, rfl⟩
    rw [target, if_pos ⟨rfl, haligned⟩, regAt_regOffset]

@[simp] theorem target_regOffset (r : Reg) : target 0xF#4 (regOffset r) = some r :=
  target_eq_some.2 ⟨rfl, rfl⟩

/-- Every register stands at a multiple of 4 below 0xD4, in none of the gaps of the map (R23, R47). -/
theorem regOffset_mapped (r : Reg) :
    (regOffset r).toNat % 4 = 0 ∧ (regOffset r).toNat < 0xD4 ∧
      (regOffset r).toNat ∉ [0x03C, 0x07C, 0x09C, 0x0A8, 0x0AC, 0x0B0, 0x0B4, 0x0B8, 0x0BC] := by
  cases r <;> decide

/-! ### Reads (R277) -/

theorem exec_rd (be : BitVec 4) (offset : BitVec 12) (d : Word) (s : State) :
    exec (.rd be offset d) s = .next (hostRead be offset s) := rfl

theorem exec_wr (be : BitVec 4) (offset : BitVec 12) (d : Word) (s : State) :
    exec (.wr be offset d) s = .next (hostWrite be offset d s) := rfl

theorem exec_rd_register {s : State} {r : Reg} {v : Word} (d : Word) (h : readReg s r = some v) :
    exec (.rd 0xF#4 (regOffset r) d) s = .next { s with readData := v } := by
  rw [exec_rd, hostRead, target_regOffset, Option.bind_some, h]

/-- A read that finds no value answers 0 and sets AERR: at a bad access, and at a port that selects no
element (R74 to R76). -/
theorem exec_rd_none {s : State} {be : BitVec 4} {offset : BitVec 12} (d : Word)
    (h : (target be offset).bind (readReg s) = none) :
    exec (.rd be offset d) s =
      .next { s with readData := 0#32, status := { s.status with aerr := true } } := by
  rw [exec_rd, hostRead, h]
  rfl

/-- A register narrower than 32 bits reads with zeros above it. -/
theorem zero_append_eq_setWidth {v : Nat} (k : Nat) (x : BitVec v) :
    0#k ++ x = x.setWidth (k + v) := by
  apply BitVec.eq_of_toNat_eq
  rw [BitVec.toNat_setWidth_of_le (Nat.le_add_left v k), BitVec.toNat_append]
  simp

/-- STATUS's flags in one row with the zeros above them. -/
theorem zero_append_flagByte (s : State) :
    0#16 ++ flagByte s =
      0#16 ++ BitVec.ofBool s.dec.valid ++ BitVec.ofBool s.corr.valid ++
        BitVec.ofBool s.noisy.valid ++ BitVec.ofBool s.sig.valid ++ BitVec.ofBool s.chip.valid ++
        BitVec.ofBool s.gold.valid ++ BitVec.ofBool s.msb.valid ++ BitVec.ofBool s.msa.valid := by
  unfold flagByte
  iterate 7 rw [BitVec.append_assoc']
  rfl

/-- Settles O41: each offset is its register's, and the register reads the value stated. -/
theorem readsReturnTheRegisters : Obligations.ReadsReturnTheRegisters := by
  intro s d reads
  have read (r : Reg) {v : Word} (h : readReg s r = some v) : reads (regOffset r) v :=
    exec_rd_register d h
  have zeros {n : Nat} (k : Nat) (x : BitVec n) : some (x.setWidth (k + n)) = some (0#k ++ x) :=
    congrArg some (zero_append_eq_setWidth k x).symm
  have status := read .status (v := _ ++ _) (congrArg some (by
    rw [statusWord, zero_append_flagByte]))
  exact ⟨read .id rfl, read .version rfl, read .ctrl rfl, read .cmd rfl, status,
    read .irqEn rfl, read .errCode (zeros 8 s.errCode), read .errInfo rfl,
    read .tapsA (zeros 26 s.tapsA), read .tapsB (zeros 26 s.tapsB), read .shifts rfl,
    read .lfsrState (zeros 26 s.lfsr), read .nBits rfl, read .bps rfl, read .spc rfl,
    read .f0Lo rfl, read .f0Hi rfl, read .phi0Lo rfl, read .phi0Hi rfl, read .snrDbLo rfl,
    read .snrDbHi rfl, read .a0Lo rfl, read .a0Hi rfl, read .nChips rfl, read .nSamp rfl,
    read .refLen rfl, read .corrLen rfl, read .nDec rfl, read .berErrs rfl, read .berDen rfl,
    read .berLo rfl, read .berHi rfl, read .normLo rfl, read .normHi rfl, read .decCbf rfl,
    read .decInterval rfl, read .decStartEnd rfl, read .maxBits rfl, read .maxSamples rfl,
    read .bufSel (zeros 27 s.bufSel), read .bufIndex rfl⟩

/-! ### The buffer port (R46, R76) -/

/-- The buffers with an id, each at its id (R50). -/
def bufferIds : List BufId :=
  [.bits, .mseqA, .mseqB, .gold 0, .gold 1, .gold 2, .gold 3, .chips, .sigI, .sigQ, .env, .nraw,
    .noise, .rx, .time, .ref 0, .ref 1, .ref 2, .ref 3, .corr 0, .corr 1, .corr 2, .corr 3, .dec]

theorem bufferOf_eq_getElem? (sel : BitVec 5) : bufferOf sel = bufferIds[sel.toNat]? := by
  revert sel
  decide

/-- The element `x` at an index below the length, none at or above it (R76). -/
def elementBelow (k len : Nat) (x : F64) : Option F64 := if k < len then some x else none

/-- A buffer as the port shows it: its length, and its element at BUF_INDEX. -/
def portRow (s : State) (b : BufId) : Nat × Option F64 :=
  (bufferLen s b, elementBelow s.bufIndex.toNat (bufferLen s b) (bufferElement s b s.bufIndex.toNat))

/-- What the port shows of BUF_SEL's buffer; a reserved one has length 0 and no element. -/
def portView (s : State) : Nat × Option F64 :=
  (bufferIds.map (portRow s)).getD s.bufSel.toNat (0, none)

theorem portView_eq (s : State) :
    portView s = ((bufferOf s.bufSel).map (portRow s)).getD (0, none) := by
  rw [portView, List.getD_eq_getElem?_getD, List.getElem?_map, bufferOf_eq_getElem?]

theorem portLen_eq (s : State) : portLen s = BitVec.ofNat 32 (portView s).1 := by
  rw [portView_eq, portLen]
  cases bufferOf s.bufSel <;> rfl

theorem portElement_eq (s : State) : portElement s = (portView s).2 := by
  rw [portView_eq, portElement]
  cases bufferOf s.bufSel <;> rfl

theorem elementBelow_reals (l : List F64) (k : Nat) :
    elementBelow k l.length (l.getD k fZero) = l[k]? := by
  unfold elementBelow
  split
  case isTrue hk => rw [List.getD_eq_getElem _ _ hk, List.getElem?_eq_getElem hk]
  case isFalse hk => rw [List.getElem?_eq_none (Nat.not_lt.1 hk)]

theorem bitElement_eq (b : Bool) : bitElement b = if b then 1#64 else 0#64 := by
  cases b <;> rfl

theorem elementBelow_bits (l : List Bool) (k : Nat) :
    elementBelow k l.length (if l.getD k false then 1#64 else 0#64) =
      l[k]?.map (fun b => if b then 1#64 else 0#64) := by
  unfold elementBelow
  split
  case isTrue hk =>
    rw [List.getD_eq_getElem _ _ hk, List.getElem?_eq_getElem hk, Option.map_some]
  case isFalse hk => rw [List.getElem?_eq_none (Nat.not_lt.1 hk), Option.map_none]

/-- Settles O42: the table of the statement is the model's buffers row by row, and the port shows the
row that BUF_SEL selects. -/
theorem portReadsTheSelectedElement : Obligations.PortReadsTheSelectedElement := by
  intro s d k bits reals buffers selected
  have htable : buffers = bufferIds.map (portRow s) := by
    simp only [bufferIds, List.map_cons, List.map_nil, portRow, bufferLen, bufferElement, Four.get,
      bitElement_eq, elementBelow_reals, elementBelow_bits]
    rfl
  have hselected : selected = portView s := by rw [portView, ← htable]
  have hlo : readReg s .bufDataLo = selected.2.map loHalf := by
    rw [hselected, ← portElement_eq]; rfl
  have hhi : readReg s .bufDataHi = selected.2.map hiHalf := by
    rw [hselected, ← portElement_eq]; rfl
  refine ⟨?_, fun e he => ⟨?_, ?_⟩, fun hnone offset hoffset => ?_⟩
  · rw [hselected, ← portLen_eq]
    exact exec_rd_register (r := .bufLen) d rfl
  · exact exec_rd_register (r := .bufDataLo) d (by rw [hlo, he]; rfl)
  · exact exec_rd_register (r := .bufDataHi) d (by rw [hhi, he]; rfl)
  · obtain rfl | rfl := hoffset
    · exact exec_rd_none (offset := regOffset .bufDataLo) d (by simp [hlo, hnone])
    · exact exec_rd_none (offset := regOffset .bufDataHi) d (by simp [hhi, hnone])

/-! ### Writes (R278) -/

/-- A full write to a register while no command is in flight is that register's write. -/
theorem exec_wr_register {s : State} (hidle : s.pending = none) (r : Reg) (d : Word) :
    exec (.wr 0xF#4 (regOffset r) d) s = .next (writeReg r d s) := by
  have hbusy : busy s = false := by rw [busy, hidle]; rfl
  rw [exec_wr, hostWrite, target_regOffset]
  simp only [acceptedWrite, hbusy, Bool.false_eq_true, if_false]

/-- Settles O45: each offset is its register's, and the write of an idle block is that register's. -/
theorem configurationWritesInvalidate : Obligations.ConfigurationWritesInvalidate := by
  intro s d hidle writes noSig noChip noGold
  have write (r : Reg) : writes (regOffset r) (writeReg r d s) := exec_wr_register hidle r d
  have hctrl (h : d.getLsbD 0 = false) :
      writeReg .ctrl d s = { s with ctrl := ⟨d.getLsbD 1, d.getLsbD 2⟩ } := by
    rw [writeReg, writeCtrl, h]; rfl
  exact ⟨fun h => hctrl h ▸ write .ctrl, write .irqEn, write .tapsA, write .tapsB, write .shifts,
    write .nBits, write .bps, write .spc, write .f0Lo, write .f0Hi, write .phi0Lo, write .phi0Hi,
    write .snrDbLo, write .snrDbHi, write .a0Lo, write .a0Hi, write .bufSel, write .bufIndex⟩

/-- The read-only registers, in the order of R23 (R22, R23). -/
def readOnlyRegs : List Reg :=
  [.id, .version, .errCode, .errInfo, .lfsrState, .nChips, .nSamp, .refLen, .corrLen, .nDec,
    .berErrs, .berDen, .berLo, .berHi, .normLo, .normHi, .decCbf, .decInterval, .decStartEnd,
    .maxBits, .maxSamples, .bufLen]

theorem writeReg_readOnly {r : Reg} (h : r ∈ readOnlyRegs) (d : Word) (s : State) :
    writeReg r d s = setWerr s := by
  fin_cases h <;> rfl

/-- Settles O46: the offsets listed are those of the read-only registers. -/
theorem readOnlyWritesSetWerr : Obligations.ReadOnlyWritesSetWerr := by
  intro s d offset hidle hoffset
  have hregs : offset.toNat ∈ readOnlyRegs.map (fun r => (regOffset r).toNat) := hoffset
  obtain ⟨r, hr, hr'⟩ := List.mem_map.1 hregs
  obtain rfl : regOffset r = offset := BitVec.eq_of_toNat_eq hr'
  rw [exec_wr_register hidle, writeReg_readOnly hr]
  rfl

/-! ### Bad accesses (R74, R75) -/

/-- A bad access reaches no register. -/
theorem target_eq_none {be : BitVec 4} {offset : BitVec 12}
    (h : be ≠ 0xF#4 ∨ offset.toNat % 4 ≠ 0 ∨ 0x100 ≤ offset.toNat ∨
      offset.toNat ∈ [0x03C, 0x07C, 0x09C, 0x0A8, 0x0AC, 0x0B0, 0x0B4, 0x0B8, 0x0BC] ∨
      0x0D4 ≤ offset.toNat) :
    target be offset = none := by
  rw [Option.eq_none_iff_forall_ne_some]
  intro r hr
  obtain ⟨rfl, rfl⟩ := target_eq_some.1 hr
  obtain ⟨haligned, hbelow, hgap⟩ := regOffset_mapped r
  rcases h with h | h | h | h | h
  · exact h rfl
  · exact h haligned
  · omega
  · exact hgap h
  · omega

theorem badWrite_eq (s : State) :
    badWrite s = { s with
      status := { s.status with aerr := true, werr := s.status.werr || s.pending.isSome } } := by
  unfold badWrite busy
  cases hpending : s.pending <;> simp [setAerr, setWerr, hpending]

/-- Settles O43: a bad access reaches no register, so a read finds no value and a write is a bad one. -/
theorem badAccessesOnlySetAerr : Obligations.BadAccessesOnlySetAerr := by
  intro s be offset d hbad
  have hnone : target be offset = none := target_eq_none hbad
  constructor
  · exact exec_rd_none d (by rw [hnone]; rfl)
  · rw [exec_wr, hostWrite, hnone]
    exact congrArg _ (badWrite_eq s)

/-! ### Resets (R340, R341) -/

/-- A full CTRL write with bit 0 set is a soft reset, whether or not a command is in flight (R280). -/
theorem exec_wr_softReset {d : Word} (hd : d.getLsbD 0 = true) (s : State) :
    exec (.wr 0xF#4 (regOffset .ctrl) d) s = .next (softReset s) := by
  rw [exec_wr, hostWrite, target_regOffset]
  cases hbusy : busy s
  case false => simp [acceptedWrite, hbusy, writeReg, writeCtrl, hd]
  case true => simp [acceptedWrite, hbusy, hd]

theorem step_hardReset {s : State} {n : Nat} {rest : List Event}
    (h : s.events = .hardReset n :: rest) :
    step s = .next (hardReset n { s with events := rest }) := by
  simp only [step, h, runEvent]

/-- Settles O10: both resets put the reset values in place, and with them no cause of an interrupt, no
command and no cell of memory is left. -/
theorem resetsGiveTheResetValues : Obligations.ResetsGiveTheResetValues := by
  intro s n rest d after
  have hhard : hardReset n { s with events := rest } = after n rest := rfl
  have hsoft : softReset s = after s.noiseState s.events := rfl
  refine ⟨fun h => ?_, fun hd => ?_, rfl, rfl, fun _ => rfl, fun _ => rfl⟩
  · rw [step_hardReset h, hhard]
  · rw [← hsoft]
    exact exec_wr_softReset hd s

end Sys2Proof.Proofs

/-!
PROOFS. Commands: each is the completion of a result, what no stage touches no command touches, and
no stage reads A0 (R39); GEN_MSEQ's run of the register in closed form (R132).
-/

namespace Sys2Proof.Proofs

open Sys2Proof Sys2Proof.Machine

/-! ### A command is the completion of a result (R272) -/

/-- What the stages of a command come to, before its completion; a transaction has none. -/
def commandResult (i : Instr) (s : State) : Result :=
  match i with
  | .genMseqA => genMseqA s
  | .genMseqB => genMseqB s
  | .buildGold => buildGold s
  | .spread => spread s
  | .synth => synth s
  | .addNoise => addNoise s
  | .correlate => correlate s
  | .decode => decodeStage s
  | .runPipeline => runPipeline s
  | .nop | .rd _ _ _ | .wr _ _ _ => .committed s

theorem exec_eq_complete {i : Instr} (h : isCommand i = true) (s : State) :
    exec i s = .next (complete (commandResult i s)) := by
  cases i with
  | rd => cases h
  | wr => cases h
  | _ => rfl

@[simp] theorem complete_pending (r : Result) : (complete r).pending = none := by
  cases r <;> rfl

@[simp] theorem complete_done (r : Result) : (complete r).status.done = true := by
  cases r <;> rfl

/-- Completion itself writes nothing of the host's. -/
theorem hostSideKept_complete (r : Result) : HostSideKept r.state (complete r) := by
  cases r <;> exact .of_fields rfl

/-! ### What every stage keeps, every command keeps (R275) -/

/-- A property of states that each of the eight stages keeps, whether it commits or fails. -/
structure StageInvariant (P : State → Prop) : Prop where
  genMseqA : ∀ s, P s → P (genMseqA s).state
  genMseqB : ∀ s, P s → P (genMseqB s).state
  buildGold : ∀ s, P s → P (buildGold s).state
  spread : ∀ s, P s → P (spread s).state
  synth : ∀ s, P s → P (synth s).state
  addNoise : ∀ s, P s → P (addNoise s).state
  correlate : ∀ s, P s → P (correlate s).state
  decodeStage : ∀ s, P s → P (decodeStage s).state

theorem commandResult_sat {P : State → Prop} (hP : StageInvariant P) (i : Instr) {s : State}
    (hs : P s) : P (commandResult i s).state := by
  cases i with
  | genMseqA => exact hP.genMseqA s hs
  | genMseqB => exact hP.genMseqB s hs
  | buildGold => exact hP.buildGold s hs
  | spread => exact hP.spread s hs
  | synth => exact hP.synth s hs
  | addNoise => exact hP.addNoise s hs
  | correlate => exact hP.correlate s hs
  | decode => exact hP.decodeStage s hs
  | runPipeline =>
    exact runPipeline_keeps hP.buildGold hP.spread hP.synth hP.addNoise hP.correlate
      hP.decodeStage s hs
  | nop => exact hs
  | rd => exact hs
  | wr => exact hs

/-- What depends only on what no stage touches is kept by every stage. -/
theorem stageInvariant_of_stageKeeps {P : State → Prop}
    (hP : ∀ s t, StageKeeps s t → P s → P t) : StageInvariant P where
  genMseqA s := hP _ _ (genMseqA_keeps s)
  genMseqB s := hP _ _ (genMseqB_keeps s)
  buildGold s := hP _ _ (buildGold_keeps s)
  spread s := hP _ _ (spread_keeps s)
  synth s := hP _ _ (synth_keeps s)
  addNoise s := hP _ _ (addNoise_keeps s)
  correlate s := hP _ _ (correlate_keeps s)
  decodeStage s := hP _ _ (decodeStage_keeps s)

theorem stageKeeps_commandResult (i : Instr) (s : State) :
    StageKeeps s (commandResult i s).state :=
  commandResult_sat (stageInvariant_of_stageKeeps fun _ _ h g => g.trans h) i (.refl s)

theorem hostSideKept_command (i : Instr) (s : State) :
    HostSideKept s (complete (commandResult i s)) :=
  (stageKeeps_commandResult i s).host.trans (hostSideKept_complete _)

/-- Settles O52: no stage touches the host's side, and completion leaves it alone too. -/
theorem commandsKeepTheHostSide : Obligations.CommandsKeepTheHostSide := fun i s hi =>
  ⟨_, exec_eq_complete hi s, hostSideKept_command i s, complete_pending _, complete_done _⟩

/-! ### The interrupt line (R54) -/

theorem irq_eq_true {s : State} :
    irq s = true ↔ (s.status.done = true ∧ s.irqEn.doneIe = true) ∨
      (s.status.err = true ∧ s.irqEn.errIe = true) := by
  simp only [irq, Bool.or_eq_true, Bool.and_eq_true]

/-- Settles O51: a completion sets DONE and keeps IRQ_EN, so DONE_IE raises the line. -/
theorem interruptLineFollowsTheCauses : Obligations.InterruptLineFollowsTheCauses := by
  intro s
  refine ⟨irq_eq_true, fun i t hi hexec hie => ?_, rfl, rfl⟩
  rw [exec_eq_complete hi] at hexec
  obtain rfl : complete (commandResult i s) = t := by injection hexec
  refine irq_eq_true.2 (.inl ⟨complete_done _, ?_⟩)
  rw [(hostSideKept_command i s).irqEn, hie]

/-! ### GEN_MSEQ (R131, R132) -/

/-- The register alone after one generation step. -/
def lfsrNext (taps r : Stages) : Stages := (lfsrStep taps r).2

/-- A run puts out bit 5 of each register it passes through, and leaves the last one. -/
theorem lfsrRun_eq (taps : Stages) (n : Nat) (r : Stages) :
    lfsrRun taps n r =
      ((List.range n).map (fun k => ((lfsrNext taps)^[k] r).getLsbD 5), (lfsrNext taps)^[n] r) := by
  induction n generalizing r with
  | zero => rfl
  | succ n ih =>
    rw [lfsrRun, ih, List.range_succ_eq_map, List.map_cons, List.map_map]
    rfl

/-- Settles O13: the run of the register in closed form, in each of the two meanings. -/
theorem genMseqRunsTheRegister : Obligations.GenMseqRunsTheRegister := by
  intro s reg seq
  have hrun (taps : Stages) : mseq taps = (seq taps, reg taps 63) := lfsrRun_eq taps 63 0x02#6
  constructor
  · rw [exec_eq_complete rfl, commandResult, genMseqA, hrun]
    rfl
  · rw [exec_eq_complete rfl, commandResult, genMseqB, hrun]
    rfl

/-! ### No stage reads A0 (R39) -/

/-- The state with another amplitude. -/
def withA0 (v : F64) (s : State) : State := { s with a0 := v }

/-- A result with its state changed. -/
def mapState (f : State → State) (r : Result) : Result :=
  match r with
  | .committed s => .committed (f s)
  | .failed s e => .failed (f s) e

@[simp] theorem mapState_committed (f : State → State) (s : State) :
    mapState f (.committed s) = .committed (f s) := rfl

@[simp] theorem mapState_failed (f : State → State) (s : State) (e : CmdError) :
    mapState f (.failed s e) = .failed (f s) e := rfl

theorem mapState_andThen {g : State → State} {f : State → Result}
    (hf : ∀ s, f (g s) = mapState g (f s)) (r : Result) :
    (mapState g r).andThen f = mapState g (r.andThen f) := by
  cases r with
  | committed s => exact hf s
  | failed s e => rfl

section Amplitude

variable (v : F64) (s : State)

theorem complete_withA0 (r : Result) :
    complete (mapState (withA0 v) r) = withA0 v (complete r) := by
  cases r <;> rfl

theorem withA0_tapsA : (withA0 v s).tapsA = s.tapsA := rfl

theorem withA0_tapsB : (withA0 v s).tapsB = s.tapsB := rfl

theorem withA0_chip : (withA0 v s).chip = s.chip := rfl

theorem flagByte_withA0 : flagByte (withA0 v s) = flagByte s := rfl

theorem shiftRangeError_withA0 : shiftRangeError (withA0 v s) = shiftRangeError s := rfl

theorem shiftDupError_withA0 : shiftDupError (withA0 v s) = shiftDupError s := rfl

theorem goldTable_withA0 : goldTable (withA0 v s) = goldTable s := rfl

theorem genMseqA_withA0 : genMseqA (withA0 v s) = mapState (withA0 v) (genMseqA s) := by
  simp only [genMseqA, withA0_tapsA]
  generalize mseq s.tapsA = m
  rfl

theorem genMseqB_withA0 : genMseqB (withA0 v s) = mapState (withA0 v) (genMseqB s) := by
  simp only [genMseqB, withA0_tapsB]
  generalize mseq s.tapsB = m
  rfl

theorem goldCommit_withA0 : goldCommit (withA0 v s) = withA0 v (goldCommit s) := by
  simp only [goldCommit, withA0_tapsA, withA0_tapsB, goldTable_withA0]
  generalize mseq s.tapsA = a
  generalize mseq s.tapsB = b
  rfl

theorem buildGold_withA0 : buildGold (withA0 v s) = mapState (withA0 v) (buildGold s) := by
  unfold buildGold
  rw [shiftRangeError_withA0, shiftDupError_withA0, goldTable_withA0, goldCommit_withA0]
  cases shiftRangeError s with
  | some e => rfl
  | none =>
    cases shiftDupError s with
    | some e => rfl
    | none => cases goldDupError (goldTable s) <;> rfl

theorem spreadCommit_withA0 : spreadCommit (withA0 v s) = withA0 v (spreadCommit s) := rfl

theorem spread_withA0 : spread (withA0 v s) = mapState (withA0 v) (spread s) := by
  unfold spread
  rw [spreadCommit_withA0, flagByte_withA0]
  simp only [apply_ite (mapState (withA0 v))]
  rfl

theorem signalConfigError_withA0 (n : Nat) :
    signalConfigError (withA0 v s) n = signalConfigError s n := rfl

theorem synthCommit_withA0 : synthCommit (withA0 v s) = withA0 v (synthCommit s) := rfl

theorem synth_withA0 : synth (withA0 v s) = mapState (withA0 v) (synth s) := by
  unfold synth
  rw [synthCommit_withA0, flagByte_withA0, apply_ite (mapState (withA0 v)),
    signalConfigError_withA0, withA0_chip]
  cases signalConfigError s s.chip.nChips.toNat <;> rfl

theorem gaussianSamples_withA0 (n : Nat) :
    gaussianSamples (withA0 v s) n = gaussianSamples s n := rfl

theorem takeDraws_withA0 (n : Nat) : takeDraws (withA0 v s) n = withA0 v (takeDraws s n) := by
  simp only [takeDraws, apply_ite (withA0 v)]
  rfl

theorem gaussNorm_withA0 (g : List F64) : gaussNorm g (withA0 v s) = gaussNorm g s := rfl

theorem noisyRx_withA0 (g : List F64) (norm : F64) :
    noisyRx g norm (withA0 v s) = noisyRx g norm s := rfl

theorem noiseCommit_withA0 (g : List F64) (norm : F64) (rx : List F64) :
    noiseCommit g norm rx (withA0 v s) = withA0 v (noiseCommit g norm rx s) := rfl

theorem injectNoise_withA0 (g : List F64) :
    injectNoise g (withA0 v s) = mapState (withA0 v) (injectNoise g s) := by
  simp only [injectNoise, gaussNorm_withA0, noisyRx_withA0, noiseCommit_withA0]
  cases firstNonFinite g with
  | some k => rfl
  | none =>
    simp only [apply_ite (mapState (withA0 v))]
    cases firstNonFinite (noisyRx g (gaussNorm g s) s) <;> rfl

theorem addNoise_withA0 : addNoise (withA0 v s) = mapState (withA0 v) (addNoise s) := by
  unfold addNoise
  rw [apply_ite (mapState (withA0 v)), ← injectNoise_withA0, ← takeDraws_withA0]
  rfl

theorem correlateCommit_withA0 :
    correlateCommit (withA0 v s) = withA0 v (correlateCommit s) := rfl

theorem correlate_withA0 : correlate (withA0 v s) = mapState (withA0 v) (correlate s) := by
  unfold correlate
  simp only [apply_ite (mapState (withA0 v)), correlateCommit_withA0]
  rfl

theorem decodeStage_withA0 : decodeStage (withA0 v s) = mapState (withA0 v) (decodeStage s) := by
  unfold decodeStage
  simp only [apply_ite (mapState (withA0 v))]
  rfl

theorem pipelineNoise_withA0 :
    pipelineNoise (withA0 v s) = mapState (withA0 v) (pipelineNoise s) := by
  unfold pipelineNoise
  rw [addNoise_withA0, apply_ite (mapState (withA0 v))]
  rfl

theorem precheckError_withA0 : precheckError (withA0 v s) = precheckError s := rfl

theorem runPipeline_withA0 : runPipeline (withA0 v s) = mapState (withA0 v) (runPipeline s) := by
  unfold runPipeline
  rw [precheckError_withA0]
  cases precheckError s with
  | some e => rfl
  | none =>
    simp only [buildGold_withA0, mapState_andThen (spread_withA0 v),
      mapState_andThen (synth_withA0 v), mapState_andThen (pipelineNoise_withA0 v),
      mapState_andThen (correlate_withA0 v), mapState_andThen (decodeStage_withA0 v)]

theorem commandResult_withA0 (i : Instr) :
    commandResult i (withA0 v s) = mapState (withA0 v) (commandResult i s) := by
  cases i with
  | genMseqA => exact genMseqA_withA0 v s
  | genMseqB => exact genMseqB_withA0 v s
  | buildGold => exact buildGold_withA0 v s
  | spread => exact spread_withA0 v s
  | synth => exact synth_withA0 v s
  | addNoise => exact addNoise_withA0 v s
  | correlate => exact correlate_withA0 v s
  | decode => exact decodeStage_withA0 v s
  | runPipeline => exact runPipeline_withA0 v s
  | _ => rfl

end Amplitude

/-- Settles O55: the amplitude passes through each stage and the completion unread. -/
theorem noStageReadsTheAmplitude : Obligations.NoStageReadsTheAmplitude := by
  intro i s t v hi hexec
  rw [exec_eq_complete hi] at hexec
  obtain rfl : complete (commandResult i s) = t := by injection hexec
  calc exec i (withA0 v s) = .next (complete (commandResult i (withA0 v s))) :=
        exec_eq_complete hi _
    _ = .next (withA0 v (complete (commandResult i s))) := by
        rw [commandResult_withA0, complete_withA0]

end Sys2Proof.Proofs

/-!
PROOFS. What every step keeps, the induction packaged once: memory's form and capacities (R51, R52),
the truth of the valid flags (R48, R49, R80), and an error until it is cleared (R306).
-/

namespace Sys2Proof.Proofs

open Sys2Proof Sys2Proof.Machine

/-! ### Register writes, by what they can do -/

/-- What a write through the port can do: set a bus flag, clear CHIP_V with or without a write to
BITS, or write a cell of NRAW (R77 to R79). -/
theorem writePort_cases (hi : Bool) (d : Word) (s : State) :
    writePort hi d s = setAerr s ∨ writePort hi d s = setWerr s ∨
    (∃ u, (u = s ∨ s.bufIndex.toNat < s.maxBits.toNat ∧
        u = writeBit s s.bufIndex.toNat (d.getLsbD 0)) ∧
      writePort hi d s = invalidate .chipV u) ∨
    (s.bufIndex.toNat < s.maxSamples.toNat ∧
      ∃ v, writePort hi d s = writeNraw s s.bufIndex.toNat v) := by
  unfold writePort
  simp only
  split
  · exact .inl rfl
  · split
    case isTrue hk =>
      cases hi
      case false => exact .inr (.inr (.inl ⟨_, .inr ⟨hk, rfl⟩, rfl⟩))
      case true => exact .inr (.inr (.inl ⟨_, .inl rfl, rfl⟩))
    case isFalse => exact .inl rfl
  · split
    case isTrue hk => exact .inr (.inr (.inr ⟨hk, _, rfl⟩))
    case isFalse => exact .inl rfl
  · exact .inr (.inl rfl)

/-- A STATUS write clears the four sticky bits where its data has ones (R279). -/
theorem clearStatus_eq (d : Word) (s : State) :
    clearStatus d s =
      { s with
        status :=
          { done := s.status.done && !d.getLsbD 1, err := s.status.err && !d.getLsbD 2
            werr := s.status.werr && !d.getLsbD 3, aerr := s.status.aerr && !d.getLsbD 4 }
        errCode := if d.getLsbD 2 then 0#24 else s.errCode
        errInfo := if d.getLsbD 2 then 0#32 else s.errInfo } := by
  unfold clearStatus
  generalize d.getLsbD 1 = b1, d.getLsbD 2 = b2, d.getLsbD 3 = b3, d.getLsbD 4 = b4
  split_ifs <;> simp_all [clearError]

/-! ### Invariants of a step -/

/-- A property that each thing a step can do keeps: a stage and a completion, a host read, a bus flag,
a register write, a reset, and the passing of an event. -/
structure StepInvariant (P : State → Prop) : Prop where
  stages : StageInvariant P
  complete : ∀ r, P r.state → P (Machine.complete r)
  readData : ∀ s v, P s → P { s with readData := v }
  werr : ∀ s, P s → P (setWerr s)
  aerr : ∀ s, P s → P (setAerr s)
  reg : ∀ r d s, P s → P (writeReg r d s)
  reset : ∀ n s, P s → P (resetWith n s)
  events : ∀ s es, P s → P { s with events := es }

section Step

variable {P : State → Prop} (hP : StepInvariant P)

include hP

theorem hostRead_sat (be : BitVec 4) (offset : BitVec 12) {s : State} (hs : P s) :
    P (hostRead be offset s) := by
  rcases hostRead_cases be offset s with ⟨-, v, -, -, hr⟩ | ⟨-, hr⟩
  · exact hr ▸ hP.readData s v hs
  · exact hr ▸ hP.readData _ _ (hP.aerr s hs)

theorem badWrite_sat {s : State} (hs : P s) : P (badWrite s) := by
  unfold badWrite
  split
  · exact hP.aerr _ (hP.werr s hs)
  · exact hP.aerr s hs

theorem hostWrite_sat (be : BitVec 4) (offset : BitVec 12) (d : Word) {s : State} (hs : P s) :
    P (hostWrite be offset d s) := by
  rcases hostWrite_cases be offset d s with
    ⟨-, hw⟩ | ⟨-, -, hw⟩ | ⟨-, -, -, -, hw⟩ | ⟨r, -, -, -, hw⟩
  · exact hw ▸ badWrite_sat hP hs
  · exact hw ▸ hP.reset _ s hs
  · exact hw ▸ hP.werr s hs
  · exact hw ▸ hP.reg r d s hs

theorem exec_sat (i : Instr) {s t : State} (hs : P s) (hexec : exec i s = .next t) : P t := by
  cases hi : isCommand i
  case true =>
    rw [exec_eq_complete hi] at hexec
    cases hexec
    exact hP.complete _ (commandResult_sat hP.stages i hs)
  case false =>
    cases i with
    | rd be offset d =>
      cases hexec
      exact hostRead_sat hP be offset hs
    | wr be offset d =>
      cases hexec
      exact hostWrite_sat hP be offset d hs
    | _ => cases hi

/-- A property that everything a step can do keeps is kept by every step. -/
theorem step_sat {s t : State} (hs : P s) (hstep : step s = .next t) : P t := by
  obtain ⟨u, hu, ht⟩ := step_cases hstep
  have hPu : P u := by
    rcases hu with rfl | ⟨-, -, hu⟩
    · exact hs
    · exact hu ▸ hP.events s _ hs
  rcases ht with rfl | ⟨w, why, -, -, rfl⟩ | ⟨i, hexec, -⟩ | ⟨n, -, rfl⟩
  · exact hPu
  · exact hP.complete (.failed u (illegalCommand why w)) hPu
  · exact exec_sat hP i hPu hexec
  · exact hP.reset n u hPu

end Step

/-! ### Memory's form and capacities (R51, R52) -/

theorem memoryGood_of_eq {s t : State} (h : MemoryGood s) (hmem : t.mem = s.mem)
    (hbits : t.maxBits = s.maxBits) (hsamples : t.maxSamples = s.maxSamples) : MemoryGood t :=
  ⟨hmem ▸ h.form, hmem ▸ hbits ▸ h.bitsBelow, hmem ▸ hsamples ▸ h.nrawBelow⟩

/-- Memory with no cell listed is good, whatever the capacities. -/
theorem memoryGood_of_empty {s : State} (h : s.mem = ⟨[], []⟩) : MemoryGood s :=
  ⟨by rw [h]; rfl, by rw [h]; rfl, by rw [h]; rfl⟩

theorem memoryGood_of_hostSideKept {s t : State} (hst : HostSideKept s t) (h : MemoryGood s) :
    MemoryGood t :=
  memoryGood_of_eq h hst.mem hst.maxBits hst.maxSamples

theorem memoryGood_writeBit {s : State} (h : MemoryGood s) {k : Nat} (hk : k < s.maxBits.toNat)
    (b : Bool) : MemoryGood (writeBit s k b) :=
  ⟨writeBit_wf k b h.form, ramWrite_below _ hk h.bitsBelow, h.nrawBelow⟩

theorem memoryGood_writeNraw {s : State} (h : MemoryGood s) {k : Nat}
    (hk : k < s.maxSamples.toNat) (v : F64) : MemoryGood (writeNraw s k v) :=
  ⟨writeNraw_wf k v h.form, h.bitsBelow, ramWrite_below _ hk h.nrawBelow⟩

theorem memoryGood_writePort {s : State} (h : MemoryGood s) (hi : Bool) (d : Word) :
    MemoryGood (writePort hi d s) := by
  rcases writePort_cases hi d s with hw | hw | ⟨u, hu, hw⟩ | ⟨hk, v, hw⟩ <;> rw [hw]
  · exact memoryGood_of_eq h rfl rfl rfl
  · exact memoryGood_of_eq h rfl rfl rfl
  · have hgood : MemoryGood u := by
      rcases hu with rfl | ⟨hk, rfl⟩
      · exact h
      · exact memoryGood_writeBit h hk _
    exact memoryGood_of_eq hgood rfl rfl rfl
  · exact memoryGood_writeNraw h hk v

theorem memoryGood_writeReg (r : Reg) (d : Word) {s : State} (h : MemoryGood s) :
    MemoryGood (writeReg r d s) := by
  cases r with
  | ctrl =>
    show MemoryGood (writeCtrl d s)
    unfold writeCtrl
    split
    · exact memoryGood_of_empty rfl
    · exact memoryGood_of_eq h rfl rfl rfl
  | cmd =>
    show MemoryGood (writeCmd d s)
    unfold writeCmd
    split <;> exact memoryGood_of_eq h rfl rfl rfl
  | status =>
    show MemoryGood (clearStatus d s)
    rw [clearStatus_eq]
    exact memoryGood_of_eq h rfl rfl rfl
  | bufDataLo => exact memoryGood_writePort h false d
  | bufDataHi => exact memoryGood_writePort h true d
  | _ => exact memoryGood_of_eq h rfl rfl rfl

theorem memoryGood_invariant : StepInvariant MemoryGood where
  stages := stageInvariant_of_stageKeeps fun _ _ h => memoryGood_of_hostSideKept h.host
  complete r := memoryGood_of_hostSideKept (hostSideKept_complete r)
  readData _ _ h := memoryGood_of_eq h rfl rfl rfl
  werr _ h := memoryGood_of_eq h rfl rfl rfl
  aerr _ h := memoryGood_of_eq h rfl rfl rfl
  reg r d _ h := memoryGood_writeReg r d h
  reset _ _ _ := memoryGood_of_empty rfl
  events _ _ h := memoryGood_of_eq h rfl rfl rfl

/-- Settles O57: only the port and the resets write memory, and the port checks its index. -/
theorem stepKeepsMemoryGood : Obligations.StepKeepsMemoryGood :=
  fun _ _ => step_sat memoryGood_invariant

/-! ### The valid flags (R48, R49, R80)

A state's coherence reads its banks, BITS, and the configuration a bank was computed from; it does not
read the registers named in `coherent_of_fields`. A configuration write changes what some banks were
computed from, and it empties just those banks and the ones behind them. -/

theorem coherent_of_fields {s t : State} (h : Coherent s)
    (ht : t = { s with
      ctrl := t.ctrl, cmd := t.cmd, status := t.status, irqEn := t.irqEn, errCode := t.errCode
      errInfo := t.errInfo, lfsr := t.lfsr, snrDb := t.snrDb, a0 := t.a0, bufSel := t.bufSel
      bufIndex := t.bufIndex, mem := { s.mem with nraw := t.mem.nraw }, pending := t.pending
      noiseState := t.noiseState, events := t.events, readData := t.readData }) :
    Coherent t := by
  obtain ⟨hchain, hstale, hcurrent⟩ := h
  rw [ht]
  exact
    { chain := ⟨hchain.gold, hchain.chip, hchain.sig, hchain.noisy, hchain.corr, hchain.dec⟩
      noStale := ⟨hstale.msa, hstale.msb, hstale.gold, hstale.chip, hstale.sig, hstale.noisy,
        hstale.corr, hstale.dec⟩
      current := ⟨hcurrent.msa, hcurrent.msb, hcurrent.gold, hcurrent.chip, hcurrent.sig,
        hcurrent.clean, hcurrent.noisy, hcurrent.corr, hcurrent.dec⟩ }

/-- With every bank empty no flag claims anything. -/
theorem coherent_of_empty {s : State} (hmsa : s.msa = .empty) (hmsb : s.msb = .empty)
    (hgold : s.gold = .empty) (hchip : s.chip = .empty) (hsig : s.sig = .empty)
    (hnoisy : s.noisy = .empty) (hcorr : s.corr = .empty) (hdec : s.dec = .empty) :
    Coherent s := by
  have hclear : s.msa.valid = false ∧ s.msb.valid = false ∧ s.gold.valid = false ∧
      s.chip.valid = false ∧ s.sig.valid = false ∧ s.noisy.valid = false ∧
      s.corr.valid = false ∧ s.dec.valid = false := by
    rw [hmsa, hmsb, hgold, hchip, hsig, hnoisy, hcorr, hdec]
    decide
  have hrx : s.sig.rx = s.sig.env := by rw [hsig]; rfl
  exact
    { chain := by constructor <;> simp [hclear]
      noStale := ⟨fun _ => hmsa, fun _ => hmsb, fun _ => hgold, fun _ => hchip, fun _ => hsig,
        fun _ => hnoisy, fun _ => hcorr, fun _ => hdec⟩
      current := by constructor <;> simp [hclear, hrx] }

/-- TAPS_A may change when MSA_V and all behind it go. -/
theorem coherent_invalidate_msaV {s : State} (h : Coherent s) (taps : Stages) :
    Coherent { invalidate .msaV s with tapsA := taps } :=
  { chain := ⟨clear_flag, clear_flag, clear_flag, clear_flag, clear_flag, clear_flag⟩
    noStale := ⟨fun _ => rfl, h.noStale.msb, fun _ => rfl, fun _ => rfl, fun _ => rfl,
      fun _ => rfl, fun _ => rfl, fun _ => rfl⟩
    current := ⟨clear_flag, h.current.msb, clear_flag, clear_flag, clear_flag, fun _ => rfl,
      clear_flag, clear_flag, clear_flag⟩ }

/-- TAPS_B may change when MSB_V and all behind it go. -/
theorem coherent_invalidate_msbV {s : State} (h : Coherent s) (taps : Stages) :
    Coherent { invalidate .msbV s with tapsB := taps } :=
  { chain := ⟨clear_flag, clear_flag, clear_flag, clear_flag, clear_flag, clear_flag⟩
    noStale := ⟨h.noStale.msa, fun _ => rfl, fun _ => rfl, fun _ => rfl, fun _ => rfl,
      fun _ => rfl, fun _ => rfl, fun _ => rfl⟩
    current := ⟨h.current.msa, clear_flag, clear_flag, clear_flag, clear_flag, fun _ => rfl,
      clear_flag, clear_flag, clear_flag⟩ }

/-- SHIFTS may change when GOLD_V and all behind it go. -/
theorem coherent_invalidate_goldV {s : State} (h : Coherent s) (shifts : Word) :
    Coherent { invalidate .goldV s with shifts := shifts } :=
  { chain := ⟨clear_flag, clear_flag, clear_flag, clear_flag, clear_flag, clear_flag⟩
    noStale := ⟨h.noStale.msa, h.noStale.msb, fun _ => rfl, fun _ => rfl, fun _ => rfl,
      fun _ => rfl, fun _ => rfl, fun _ => rfl⟩
    current := ⟨h.current.msa, h.current.msb, clear_flag, clear_flag, clear_flag, fun _ => rfl,
      clear_flag, clear_flag, clear_flag⟩ }

/-- N_BITS and BITS may change when CHIP_V and all behind it go. -/
theorem coherent_invalidate_chipV {s : State} (h : Coherent s) (nBits : Word) (mem : Memory) :
    Coherent { invalidate .chipV s with nBits := nBits, mem := mem } :=
  { chain := ⟨h.chain.gold, clear_flag, clear_flag, clear_flag, clear_flag, clear_flag⟩
    noStale := ⟨h.noStale.msa, h.noStale.msb, h.noStale.gold, fun _ => rfl, fun _ => rfl,
      fun _ => rfl, fun _ => rfl, fun _ => rfl⟩
    current := ⟨h.current.msa, h.current.msb, h.current.gold, clear_flag, clear_flag,
      fun _ => rfl, clear_flag, clear_flag, clear_flag⟩ }

/-- The rates and the carrier values may change when SIG_V and all behind it go. -/
theorem coherent_invalidate_sigV {s : State} (h : Coherent s) (bps spc : Word) (f0 phi0 : F64) :
    Coherent { invalidate .sigV s with bps := bps, spc := spc, f0 := f0, phi0 := phi0 } :=
  { chain := ⟨h.chain.gold, h.chain.chip, clear_flag, clear_flag, clear_flag, clear_flag⟩
    noStale := ⟨h.noStale.msa, h.noStale.msb, h.noStale.gold, h.noStale.chip, fun _ => rfl,
      fun _ => rfl, fun _ => rfl, fun _ => rfl⟩
    current := ⟨h.current.msa, h.current.msb, h.current.gold, h.current.chip, clear_flag,
      fun _ => rfl, clear_flag, clear_flag, clear_flag⟩ }

/-! ADD_NOISE, the one stage whose samples come through `samplesOf`. -/

/-- In a coherent state the samples of the envelope are the whole envelope. -/
theorem samplesOf_env {s : State} (h : Coherent s) (hs : s.sig.valid = true) :
    samplesOf s.sig.env s.sig.nSamp.toNat = s.sig.env := by
  rw [samplesOf, ← h.env_length hs, List.takeD_eq_take _ le_rfl, List.take_length]

theorem gaussianSamples_length (s : State) (n : Nat) : (gaussianSamples s n).length = n := by
  unfold gaussianSamples
  split <;> simp

theorem injectNoise_coherent {g : List F64} {s : State} (h : Coherent s)
    (hs : s.sig.valid = true) (hg : g.length = s.sig.nSamp.toNat) :
    Coherent (injectNoise g s).state := by
  rcases injectNoise_cases g s with ⟨-, -, hnorm, hrx, hb⟩ | ⟨e, hb⟩ <;> rw [hb]
  · have hlength : (scaledNoise g (gaussNorm g s)).length = s.sig.env.length := by
      rw [scaledNoise, List.length_map, hg, h.env_length hs]
    have hsum : noisyRx g (gaussNorm g s) s =
        receivedWith s.sig.env (scaledNoise g (gaussNorm g s)) := by
      rw [noisyRx, samplesOf_env h hs]
    exact
      { chain := ⟨h.chain.gold, h.chain.chip, h.chain.sig, fun _ => hs, clear_flag, clear_flag⟩
        noStale := ⟨h.noStale.msa, h.noStale.msb, h.noStale.gold, h.noStale.chip,
          fun hv => clear_flag (hv.symm.trans hs), fun hv => clear_flag hv.symm, fun _ => rfl,
          fun _ => rfl⟩
        current := ⟨h.current.msa, h.current.msb, h.current.gold, h.current.chip, h.current.sig,
          fun hv => clear_flag hv.symm, fun _ => ⟨hlength, hnorm, hsum, hrx⟩, clear_flag,
          clear_flag⟩ }
  · exact h

theorem takeDraws_sig (s : State) (n : Nat) : (takeDraws s n).sig = s.sig := by
  unfold takeDraws
  split <;> rfl

theorem takeDraws_coherent {s : State} (h : Coherent s) (n : Nat) : Coherent (takeDraws s n) := by
  unfold takeDraws
  split
  · exact h
  · exact coherent_of_fields h rfl

theorem addNoise_coherent {s : State} (h : Coherent s) : Coherent (addNoise s).state := by
  unfold addNoise
  split
  · exact h
  · rename_i hs
    refine injectNoise_coherent (takeDraws_coherent h _) ?_ ?_
    · simpa only [takeDraws_sig, Bool.not_eq_false] using hs
    · rw [gaussianSamples_length, takeDraws_sig]

theorem coherent_complete (r : Result) (h : Coherent r.state) : Coherent (complete r) := by
  cases r <;> exact coherent_of_fields h rfl

theorem coherent_writePort {s : State} (h : Coherent s) (hi : Bool) (d : Word) :
    Coherent (writePort hi d s) := by
  rcases writePort_cases hi d s with hw | hw | ⟨u, hu, hw⟩ | ⟨-, v, hw⟩ <;> rw [hw]
  · exact coherent_of_fields h rfl
  · exact coherent_of_fields h rfl
  · rcases hu with rfl | ⟨-, rfl⟩
    · exact coherent_invalidate_chipV h _ _
    · exact coherent_invalidate_chipV h _ _
  · exact coherent_of_fields h rfl

theorem coherent_resetWith (n : Nat) (s : State) : Coherent (resetWith n s) :=
  coherent_of_empty rfl rfl rfl rfl rfl rfl rfl rfl

theorem coherent_writeReg (r : Reg) (d : Word) {s : State} (h : Coherent s) :
    Coherent (writeReg r d s) := by
  cases r with
  | ctrl =>
    show Coherent (writeCtrl d s)
    unfold writeCtrl
    split
    · exact coherent_resetWith _ s
    · exact coherent_of_fields h rfl
  | cmd =>
    show Coherent (writeCmd d s)
    unfold writeCmd
    split <;> exact coherent_of_fields h rfl
  | status =>
    show Coherent (clearStatus d s)
    rw [clearStatus_eq]
    exact coherent_of_fields h rfl
  | tapsA => exact coherent_invalidate_msaV h _
  | tapsB => exact coherent_invalidate_msbV h _
  | shifts => exact coherent_invalidate_goldV h _
  | nBits => exact coherent_invalidate_chipV h _ _
  | bps => exact coherent_invalidate_sigV h _ _ _ _
  | spc => exact coherent_invalidate_sigV h _ _ _ _
  | f0Lo => exact coherent_invalidate_sigV h _ _ _ _
  | f0Hi => exact coherent_invalidate_sigV h _ _ _ _
  | phi0Lo => exact coherent_invalidate_sigV h _ _ _ _
  | phi0Hi => exact coherent_invalidate_sigV h _ _ _ _
  | bufDataLo => exact coherent_writePort h false d
  | bufDataHi => exact coherent_writePort h true d
  | _ => exact coherent_of_fields h rfl

theorem coherent_stages : StageInvariant Coherent where
  genMseqA _ := genMseqA_coherent
  genMseqB _ := genMseqB_coherent
  buildGold _ := buildGold_coherent
  spread _ := spread_coherent
  synth _ := synth_coherent
  addNoise _ := addNoise_coherent
  correlate _ := correlate_coherent
  decodeStage _ := decodeStage_coherent

theorem coherent_invariant : StepInvariant Coherent where
  stages := coherent_stages
  complete := coherent_complete
  readData _ _ h := coherent_of_fields h rfl
  werr _ h := coherent_of_fields h rfl
  aerr _ h := coherent_of_fields h rfl
  reg r d _ h := coherent_writeReg r d h
  reset n s _ := coherent_resetWith n s
  events _ _ h := coherent_of_fields h rfl

/-- Settles O59: each stage commits what its flag says, and each configuration write clears the flags
that its register bears on. -/
theorem stepKeepsCoherent : Obligations.StepKeepsCoherent :=
  fun _ _ => step_sat coherent_invariant

/-- Settles O60: the reset state lists no cell, no error and no command, and every bank is empty. -/
theorem resetIsGood : Obligations.ResetIsGood :=
  ⟨memoryGood_of_empty rfl, ⟨fun _ => ⟨rfl, rfl⟩, clear_flag, clear_flag⟩,
    coherent_of_empty rfl rfl rfl rfl rfl rfl rfl rfl⟩

/-! ### A recorded error (R306) -/

/-- The error state and the pending word are the same in both states. -/
def ErrorKept (s t : State) : Prop :=
  t.status.err = s.status.err ∧ t.errCode = s.errCode ∧ t.errInfo = s.errInfo ∧
    t.pending = s.pending

/-- The error state of a block without an error. -/
def ErrorCleared (t : State) : Prop :=
  t.status.err = false ∧ t.errCode = 0#24 ∧ t.errInfo = 0#32

theorem errorKept_writePort (hi : Bool) (d : Word) (s : State) :
    ErrorKept s (writePort hi d s) := by
  rcases writePort_cases hi d s with hw | hw | ⟨u, rfl | ⟨-, rfl⟩, hw⟩ | ⟨-, v, hw⟩ <;>
    exact hw ▸ ⟨rfl, rfl, rfl, rfl⟩

/-- With ERR at 1 a register write leaves the error alone, but for a STATUS write with bit 2 and a
soft reset: a CMD write is not accepted (R271). -/
theorem errorKept_writeReg {s : State} (herr : s.status.err = true) (r : Reg) (d : Word)
    (hctrl : ¬ (r = .ctrl ∧ d.getLsbD 0 = true)) (hstatus : ¬ (r = .status ∧ d.getLsbD 2 = true)) :
    ErrorKept s (writeReg r d s) := by
  cases r with
  | ctrl =>
    have hbit : ¬ d.getLsbD 0 = true := fun hd => hctrl ⟨rfl, hd⟩
    rw [writeReg, writeCtrl, if_neg hbit]
    exact ⟨rfl, rfl, rfl, rfl⟩
  | cmd =>
    have hrefused : ¬ accepts s = true := by simp [accepts, herr]
    rw [writeReg, writeCmd, if_neg hrefused]
    exact ⟨rfl, rfl, rfl, rfl⟩
  | status =>
    have hbit : d.getLsbD 2 = false := by simpa using fun hd => hstatus ⟨rfl, hd⟩
    rw [writeReg, clearStatus_eq, hbit]
    exact ⟨Bool.and_true _, rfl, rfl, rfl⟩
  | bufDataLo => exact errorKept_writePort false d s
  | bufDataHi => exact errorKept_writePort true d s
  | _ => exact ⟨rfl, rfl, rfl, rfl⟩

theorem errorCleared_clearStatus {d : Word} (hd : d.getLsbD 2 = true) (s : State) :
    ErrorCleared (clearStatus d s) := by
  rw [clearStatus_eq, hd]
  exact ⟨Bool.and_false _, rfl, rfl⟩

theorem errorKept_hostRead (be : BitVec 4) (offset : BitVec 12) (s : State) :
    ErrorKept s (hostRead be offset s) := by
  rcases hostRead_cases be offset s with ⟨-, v, -, -, hr⟩ | ⟨-, hr⟩ <;>
    exact hr ▸ ⟨rfl, rfl, rfl, rfl⟩

/-- A write to an idle block with an error keeps it, or is one of the two writes that clear it. -/
theorem hostWrite_error {s : State} (herr : s.status.err = true) (hidle : s.pending = none)
    (be : BitVec 4) (offset : BitVec 12) (d : Word) :
    ErrorKept s (hostWrite be offset d s) ∨
    ErrorCleared (hostWrite be offset d s) ∧ be = 0xF#4 ∧
      (offset = regOffset .status ∧ d.getLsbD 2 = true ∨
        offset = regOffset .ctrl ∧ d.getLsbD 0 = true) := by
  rcases hostWrite_cases be offset d s with
    ⟨-, hw⟩ | ⟨ht, hd, hw⟩ | ⟨-, -, hbusy, -, -⟩ | ⟨r, ht, -, hctrl, hw⟩
  · rw [hw, badWrite_eq]
    exact .inl ⟨rfl, rfl, rfl, rfl⟩
  · obtain ⟨hbe, hoffset⟩ := target_eq_some.1 ht
    rw [hw]
    exact .inr ⟨⟨rfl, rfl, rfl⟩, hbe, .inr ⟨hoffset, hd⟩⟩
  · simp [busy, hidle] at hbusy
  · rw [hw]
    by_cases hstatus : r = .status ∧ d.getLsbD 2 = true
    · obtain ⟨rfl, hd⟩ := hstatus
      obtain ⟨hbe, hoffset⟩ := target_eq_some.1 ht
      exact .inr ⟨errorCleared_clearStatus hd s, hbe, .inl ⟨hoffset, hd⟩⟩
    · exact .inl (errorKept_writeReg herr r d hctrl hstatus)

/-- Every transaction record is a read or a write (R107). -/
theorem decodeTransaction_cases (w : Txn) :
    (∃ be offset d, decodeTransaction w = .rd be offset d) ∨
      ∃ be offset d, decodeTransaction w = .wr be offset d := by
  unfold decodeTransaction
  split
  · exact .inr ⟨_, _, _, rfl⟩
  · exact .inl ⟨_, _, _, rfl⟩

/-- Settles O54: an idle block runs no command, so only a host write or a hard reset is left to clear
the error. -/
theorem errorsStayUntilCleared : Obligations.ErrorsStayUntilCleared := by
  intro s t hstep herr hidle
  obtain ⟨u, hu, ht⟩ := step_cases hstep
  have hkept : ErrorKept s u := by
    rcases hu with rfl | ⟨-, -, hu⟩
    · exact ⟨rfl, rfl, rfl, rfl⟩
    · exact hu ▸ ⟨rfl, rfl, rfl, rfl⟩
  obtain ⟨huerr, hucode, huinfo, hupending⟩ := hkept
  have hstay (hut : ErrorKept u t) : t.status.err = true ∧ t.errCode = s.errCode ∧
      t.errInfo = s.errInfo ∧ t.pending = none := by
    obtain ⟨h1, h2, h3, h4⟩ := hut
    exact ⟨h1.trans (huerr.trans herr), h2.trans hucode, h3.trans huinfo,
      h4.trans (hupending.trans hidle)⟩
  rcases ht with rfl | ⟨w, -, hw, -⟩ | ⟨i, hexec, ⟨w, hw, -⟩ | ⟨w, hevents, rfl⟩⟩ | ⟨n, hevents, rfl⟩
  · exact .inl (hstay ⟨rfl, rfl, rfl, rfl⟩)
  · exact absurd (hidle.symm.trans hw) nofun
  · exact absurd (hidle.symm.trans hw) nofun
  · rcases decodeTransaction_cases w with ⟨be, offset, d, hi⟩ | ⟨be, offset, d, hi⟩
    · rw [hi, exec_rd] at hexec
      cases hexec
      exact .inl (hstay (errorKept_hostRead be offset u))
    · rw [hi, exec_wr] at hexec
      cases hexec
      rcases hostWrite_error (huerr.trans herr) (hupending.trans hidle) be offset d with
        hut | ⟨⟨h1, h2, h3⟩, rfl, ⟨rfl, hd⟩ | ⟨rfl, hd⟩⟩
      · exact .inl (hstay hut)
      · exact .inr ⟨h1, h2, h3, .inl ⟨w, _, d, hevents, hi, hd⟩⟩
      · exact .inr ⟨h1, h2, h3, .inr (.inl ⟨w, _, d, hevents, hi, hd⟩)⟩
  · exact .inr ⟨rfl, rfl, rfl, .inr (.inr ⟨n, _, hevents⟩)⟩

end Sys2Proof.Proofs

/-!
PROOFS. The host's port as a whole: the step of a transaction (R71), reading twice (R81), and the
one cell that a write through the buffer port changes (R77 to R79).
-/

namespace Sys2Proof.Proofs

open Sys2Proof Sys2Proof.Machine

/-! ### The step of a transaction (R71, R107) -/

/-- Settles O6: a transaction event runs the instruction that its record decodes to. -/
theorem stepRunsTheTransaction : Obligations.StepRunsTheTransaction := by
  intro s w rest hevents
  simp only [step, hevents, runEvent, runTransaction]

/-! ### Reading twice (R81) -/

/-- The port selects its element without looking at the bus flags or at the host's last read. -/
theorem portElement_badRead (v : Word) (s : State) :
    portElement { setAerr s with readData := v } = portElement s := rfl

theorem readReg_readData (v : Word) (s : State) (r : Reg) :
    readReg { s with readData := v } r = readReg s r := by
  cases r <;> rfl

/-- A register without a value is one of the port's two, at a port that selects no element (R76). -/
theorem readReg_eq_none_iff {s : State} {r : Reg} :
    readReg s r = none ↔ (r = .bufDataLo ∨ r = .bufDataHi) ∧ portElement s = none := by
  constructor
  · intro hnone
    have hport : r = .bufDataLo ∨ r = .bufDataHi := by
      by_contra hother
      obtain ⟨hlo, hhi⟩ := not_or.1 hother
      simpa [hnone] using readReg_isSome s r hlo hhi
    refine ⟨hport, ?_⟩
    rcases hport with rfl | rfl <;> exact Option.map_eq_none_iff.1 hnone
  · rintro ⟨rfl | rfl, hport⟩ <;> exact Option.map_eq_none_iff.2 hport

/-- A read that finds no value finds none the second time, although it has set AERR. -/
theorem readReg_badRead {s : State} {r : Reg} (v : Word) (h : readReg s r = none) :
    readReg { setAerr s with readData := v } r = none := by
  rwa [readReg_eq_none_iff, portElement_badRead, ← readReg_eq_none_iff]

/-- The second read finds the value that the first one found, or finds none again. -/
theorem hostRead_hostRead (be : BitVec 4) (offset : BitVec 12) (s : State) :
    hostRead be offset (hostRead be offset s) = hostRead be offset s := by
  rcases hostRead_cases be offset s with ⟨r, v, htarget, hvalue, hread⟩ | ⟨hnone, hread⟩ <;>
    rw [hread]
  · rw [hostRead, htarget, Option.bind_some, readReg_readData, hvalue]
  · have hnone' : (target be offset).bind (readReg { setAerr s with readData := 0#32 }) = none :=
      Option.bind_eq_none_iff.2 fun r htarget => readReg_badRead _ (hnone r htarget)
    rw [hostRead, hnone']
    rfl

/-- A read moves the host's last read and can set AERR (R81). -/
theorem hostRead_frame (be : BitVec 4) (offset : BitVec 12) (s : State) :
    ∃ aerr, hostRead be offset s = { s with
      readData := (hostRead be offset s).readData
      status := { s.status with aerr := s.status.aerr || aerr } } := by
  rcases hostRead_cases be offset s with ⟨r, v, -, -, hread⟩ | ⟨-, hread⟩ <;> rw [hread]
  · exact ⟨false, by rw [Bool.or_false]⟩
  · exact ⟨true, by rw [Bool.or_true]; rfl⟩

/-- Settles O44: the read is `hostRead`, which has that frame and is idempotent. -/
theorem readsAreIdempotent : Obligations.ReadsAreIdempotent := by
  intro s t be offset d hread
  rw [exec_rd] at hread
  cases hread
  exact ⟨hostRead_frame be offset s, by rw [exec_rd, hostRead_hostRead]⟩

/-! ### The writable buffers by id (R50) -/

theorem bufferOf_eq_bits_iff {sel : BitVec 5} : bufferOf sel = some .bits ↔ sel = 0#5 := by
  revert sel
  decide

theorem bufferOf_eq_nraw_iff {sel : BitVec 5} : bufferOf sel = some .nraw ↔ sel = 11#5 := by
  revert sel
  decide

theorem bufferOf_eq_none_iff {sel : BitVec 5} : bufferOf sel = none ↔ 24 ≤ sel.toNat := by
  revert sel
  decide

/-! ### A write through the port, buffer by buffer (R77 to R79) -/

section Port

variable {s : State} (hi : Bool) (d : Word)

theorem writePort_reserved (h : 24 ≤ s.bufSel.toNat) : writePort hi d s = setAerr s := by
  rw [writePort, bufferOf_eq_none_iff.2 h]

theorem writePort_readOnly (hsel : s.bufSel.toNat < 24) (hbits : s.bufSel ≠ 0#5)
    (hnraw : s.bufSel ≠ 11#5) : writePort hi d s = setWerr s := by
  cases hb : bufferOf s.bufSel with
  | none => exact absurd (bufferOf_eq_none_iff.1 hb) (Nat.not_le.2 hsel)
  | some b =>
    cases b with
    | bits => exact absurd (bufferOf_eq_bits_iff.1 hb) hbits
    | nraw => exact absurd (bufferOf_eq_nraw_iff.1 hb) hnraw
    | _ => rw [writePort, hb]

theorem writePort_bits (hsel : s.bufSel = 0#5) (hk : s.bufIndex.toNat < s.maxBits.toNat) :
    writePort hi d s =
      invalidate .chipV (if hi then s else writeBit s s.bufIndex.toNat (d.getLsbD 0)) := by
  simp only [writePort, bufferOf_eq_bits_iff.2 hsel, if_pos hk]

theorem writePort_bits_pastEnd (hsel : s.bufSel = 0#5)
    (hk : s.maxBits.toNat ≤ s.bufIndex.toNat) : writePort hi d s = setAerr s := by
  simp only [writePort, bufferOf_eq_bits_iff.2 hsel, if_neg (Nat.not_lt.2 hk)]

theorem writePort_nraw (hsel : s.bufSel = 11#5) (hk : s.bufIndex.toNat < s.maxSamples.toNat) :
    writePort hi d s =
      writeNraw s s.bufIndex.toNat
        (if hi then withHi (readNraw s s.bufIndex.toNat) d
          else withLo (readNraw s s.bufIndex.toNat) d) := by
  simp only [writePort, bufferOf_eq_nraw_iff.2 hsel, if_pos hk]

theorem writePort_nraw_pastEnd (hsel : s.bufSel = 11#5)
    (hk : s.maxSamples.toNat ≤ s.bufIndex.toNat) : writePort hi d s = setAerr s := by
  simp only [writePort, bufferOf_eq_nraw_iff.2 hsel, if_neg (Nat.not_lt.2 hk)]

end Port

/-! ### Every cell after a write (R51, R52) -/

theorem readBit_writeBit {s : State} (hwf : s.mem.wf = true) (k : Nat) (b : Bool) (j : Nat) :
    readBit (writeBit s k b) j = if j = k then b else readBit s j := by
  split
  case isTrue hj => rw [hj, readBit_writeBit_same k b hwf]
  case isFalse hj => exact readBit_writeBit_other b hj

theorem readNraw_writeNraw {s : State} (hwf : s.mem.wf = true) (k : Nat) (v : F64) (j : Nat) :
    readNraw (writeNraw s k v) j = if j = k then v else readNraw s j := by
  split
  case isTrue hj => rw [hj, readNraw_writeNraw_same k v hwf]
  case isFalse hj => exact readNraw_writeNraw_other v hj

/-- Settles O50, by the buffer that BUF_SEL selects: each write of an idle block is the port's, and
the memory that it leaves is that of one cell's write. -/
theorem portWritesOneCell : Obligations.PortWritesOneCell := by
  intro s d hidle hwf k lo hi aerr werr noChip
  have hlo : lo = .next (writePort false d s) := exec_wr_register hidle .bufDataLo d
  have hhi : hi = .next (writePort true d s) := exec_wr_register hidle .bufDataHi d
  have both {u : State} (h : ∀ b, writePort b d s = u) : lo = .next u ∧ hi = .next u :=
    ⟨h false ▸ hlo, h true ▸ hhi⟩
  refine ⟨fun hsel hk => ?bits, fun hsel hk => ?nraw,
    fun hsel hk => both fun b => writePort_bits_pastEnd b d hsel hk,
    fun hsel hk => both fun b => writePort_nraw_pastEnd b d hsel hk,
    fun hsel => both fun b => writePort_reserved b d hsel,
    fun hsel hbits hnraw => both fun b => writePort_readOnly b d hsel hbits hnraw⟩
  case bits =>
    rw [hlo, hhi, writePort_bits true d hsel hk, writePort_bits false d hsel hk]
    exact ⟨rfl, _, rfl, rfl, writeBit_wf k _ hwf, readBit_writeBit hwf k _⟩
  case nraw =>
    rw [hlo, hhi, writePort_nraw true d hsel hk, writePort_nraw false d hsel hk]
    exact ⟨_, _, rfl, rfl, rfl, rfl, writeNraw_wf k _ hwf, writeNraw_wf k _ hwf,
      fun j => ⟨readNraw_writeNraw hwf k _ j, readNraw_writeNraw hwf k _ j⟩⟩

end Sys2Proof.Proofs

/-!
PROOFS. Encoding: the fields of the two formats (R101, R107), which command words are legal (R106),
the two round trips (R102, R107), and what an illegal word's completion does (R104, R105).
-/

namespace Sys2Proof.Proofs

open Sys2Proof Sys2Proof.Machine

/-! ### The fields of a transaction record (R107) -/

section Transaction

variable (be : BitVec 4) (write : Bool) (offset : BitVec 12) (data : Word)

@[simp] theorem dataField_transactionWord :
    dataField (transactionWord be write offset data) = data :=
  BitVec.extractLsb'_append_eq_right

@[simp] theorem offsetField_transactionWord :
    offsetField (transactionWord be write offset data) = offset := by
  rw [offsetField, transactionWord, BitVec.extractLsb'_append_eq_of_le le_rfl]
  exact BitVec.extractLsb'_append_eq_right

@[simp] theorem writeField_transactionWord :
    writeField (transactionWord be write offset data) = write := by
  rw [writeField, transactionWord, BitVec.getLsbD_append, if_neg (by decide),
    BitVec.getLsbD_append, if_neg (by decide), BitVec.getLsbD_append, if_pos (by decide)]
  simp

@[simp] theorem enablesField_transactionWord :
    enablesField (transactionWord be write offset data) = be := by
  rw [enablesField, transactionWord, BitVec.extractLsb'_append_eq_of_le (by decide),
    BitVec.extractLsb'_append_eq_of_le (by decide)]
  exact BitVec.extractLsb'_append_eq_left

end Transaction

theorem ofBool_getLsbD_eq_extractLsb' {n : Nat} (x : BitVec n) (i : Nat) :
    BitVec.ofBool (x.getLsbD i) = x.extractLsb' i 1 := by
  rw [BitVec.getLsbD_eq_extractLsb']
  generalize x.extractLsb' i 1 = bit
  revert bit
  decide

/-- A record is the row of its fields, each of which begins where the next lower one ends. -/
theorem transactionWord_fields (w : Txn) :
    transactionWord (enablesField w) (writeField w) (offsetField w) (dataField w) = w := by
  rw [transactionWord, enablesField, writeField, offsetField, dataField,
    ofBool_getLsbD_eq_extractLsb',
    BitVec.extractLsb'_append_extractLsb'_eq_extractLsb' (by rfl),
    BitVec.extractLsb'_append_extractLsb'_eq_extractLsb' (by rfl),
    BitVec.extractLsb'_append_extractLsb'_eq_extractLsb' (by rfl)]
  exact BitVec.extractLsb'_eq_self

theorem decodeTransaction_read (be : BitVec 4) (offset : BitVec 12) (data : Word) :
    decodeTransaction (transactionWord be false offset data) = .rd be offset data := by
  simp [decodeTransaction]

theorem decodeTransaction_write (be : BitVec 4) (offset : BitVec 12) (data : Word) :
    decodeTransaction (transactionWord be true offset data) = .wr be offset data := by
  simp [decodeTransaction]

theorem encode_decodeTransaction (w : Txn) : encode (decodeTransaction w) = .t49 w := by
  have hfields := transactionWord_fields w
  unfold decodeTransaction
  split
  case isTrue hw => rw [encode, ← hw, hfields]
  case isFalse hw => rw [encode, ← Bool.eq_false_of_not_eq_true hw, hfields]

/-! ### The fields of a command word as numbers (R101) -/

theorem toNat_opcField (w : Word) : (opcField w).toNat = w.toNat % 256 := by
  rw [opcField, BitVec.extractLsb'_toNat, Nat.shiftRight_zero]

theorem toNat_rsvdField (w : Word) : (rsvdField w).toNat = w.toNat / 512 := by
  rw [rsvdField, BitVec.extractLsb'_toNat, Nat.shiftRight_eq_div_pow]
  have := w.isLt
  omega

theorem selField_iff (w : Word) : selField w = true ↔ w.toNat / 256 % 2 = 1 := by
  rw [selField, ← BitVec.testBit_toNat, Nat.testBit_eq_decide_div_mod_eq, decide_eq_true_iff]

/-! ### Which command words are legal (R104, R105, R106) -/

theorem decodeCommand_of_opc_gt {w : Word} (hopc : 8 < w.toNat % 256) :
    decodeCommand w = .illegal .badOpcode := by
  rw [← toNat_opcField] at hopc
  rw [decodeCommand, if_pos hopc]

/-- With RSVD = 0 a word above 8 whose OPC is legal has SEL = 1, and only GEN_MSEQ takes that. -/
theorem decodeCommand_of_reserved {w : Word} (hopc : w.toNat % 256 ≤ 8) (hw : 8 < w.toNat)
    (hB : w ≠ 0x00000101#32) : decodeCommand w = .illegal .reservedBits := by
  rw [decodeCommand, if_neg (by rw [toNat_opcField]; omega)]
  split
  case isTrue => rfl
  case isFalse hrsvd =>
    have hshort : w.toNat / 512 = 0 := by
      rw [← toNat_rsvdField, not_not.1 hrsvd]
      rfl
    have hsel : selField w = true := (selField_iff w).2 (by omega)
    have hnotMseq : opcField w ≠ 0x01#8 := by
      intro hone
      have hlow : w.toNat % 256 = 1 := by
        rw [← toNat_opcField, hone]
        rfl
      exact hB (BitVec.eq_of_toNat_eq (show w.toNat = 257 by omega))
    rw [if_pos ⟨hsel, hnotMseq⟩]

theorem decodeCommand_of_illegal {w : Word} (hw : 8 < w.toNat) (hB : w ≠ 0x00000101#32) :
    decodeCommand w = .illegal (if 8 < w.toNat % 256 then .badOpcode else .reservedBits) := by
  split
  case isTrue hopc => exact decodeCommand_of_opc_gt hopc
  case isFalse hopc => exact decodeCommand_of_reserved (Nat.le_of_not_lt hopc) hw hB

/-- Settles O3: the ten legal words are read off, the others are refused by their fields. -/
theorem commandDecodingIsTotal : Obligations.CommandDecodingIsTotal :=
  ⟨⟨rfl, rfl, rfl, rfl, rfl, rfl, rfl, rfl, rfl, rfl⟩, fun _ => decodeCommand_of_opc_gt,
    fun _ => decodeCommand_of_reserved⟩

theorem legal_of_decodeCommand {w : Word} {i : Instr} (h : decodeCommand w = .instr i) :
    w.toNat ≤ 8 ∨ w = 0x00000101#32 := by
  by_contra hillegal
  obtain ⟨hw, hB⟩ := not_or.1 hillegal
  rw [decodeCommand_of_illegal (Nat.lt_of_not_le hw) hB] at h
  cases h

/-! ### The round trips (R102, R107) -/

theorem encode_of_decodeCommand {w : Word} {i : Instr} (h : decodeCommand w = .instr i) :
    encode i = .cmd32 w := by
  rcases legal_of_decodeCommand h with hle | rfl
  · obtain ⟨n, hn, rfl⟩ : ∃ n ≤ 8, w = BitVec.ofNat 32 n :=
      ⟨w.toNat, hle, by simp⟩
    interval_cases n <;> cases h <;> rfl
  · cases h
    rfl

/-- Settles O1: a command's word is one of ten that are read off, and a transaction's record gives
its fields back whatever they are. -/
theorem decodeInvertsEncode : Obligations.DecodeInvertsEncode
  | .nop | .genMseqA | .genMseqB | .buildGold | .spread | .synth | .addNoise | .correlate
  | .decode | .runPipeline => rfl
  | .rd be offset data => congrArg Decoded.instr (decodeTransaction_read be offset data)
  | .wr be offset data => congrArg Decoded.instr (decodeTransaction_write be offset data)

/-- Settles O2, by the two formats: only ten words are commands, and a record is the row of its
fields. -/
theorem encodeInvertsDecode : Obligations.EncodeInvertsDecode
  | .cmd32 _, _, h => encode_of_decodeCommand h
  | .t49 w, _, h => Decoded.instr.inj h ▸ encode_decodeTransaction w

/-! ### The opcode table's words -/

theorem decodeTableWord_of_encode {nbits w : Nat} {i : Instr}
    (h : tableRecord nbits w = some (encode i)) : decodeTableWord nbits w = some i := by
  simp only [decodeTableWord, h, decodeInvertsEncode i]

/-- Settles O4: each accepted word is the encoding of its instruction, and 0x102 has SEL = 1 on an
opcode that takes none. -/
theorem sampleWordsDecode : Obligations.SampleWordsDecode := by
  refine ⟨decodeTableWord_of_encode rfl, decodeTableWord_of_encode rfl,
    decodeTableWord_of_encode rfl, ?refused, decodeTableWord_of_encode (by decide),
    decodeTableWord_of_encode (by decide)⟩
  have hword : tableRecord 32 0x00000102 = some (.cmd32 0x00000102#32) := rfl
  have hillegal : decodeCommand 0x00000102#32 = .illegal .reservedBits :=
    decodeCommand_of_reserved (by decide) (by decide) (by decide)
  simp only [decodeTableWord, hword, decode, hillegal]

/-! ### An illegal word's completion (R104, R105, R302) -/

theorem step_of_illegal {s : State} {w : Word} {rest : List Event} {why : DecodeError}
    (hpending : s.pending = some w) (hevents : s.events = .completion :: rest)
    (hw : decodeCommand w = .illegal why) :
    step s = .next (failedWith (illegalCommand why w) { s with events := rest }) := by
  simp only [step, hevents, runEvent, runPending, hpending, runCommand, hw, complete_failed]

@[simp] theorem errorInfo_illegalCommand (why : DecodeError) (w : Word) :
    errorInfo (illegalCommand why w) = w := by
  cases why <;> rfl

theorem errorWord_badOpcode (w : Word) :
    errorWord (illegalCommand .badOpcode w) = 0x01#8 ++ w.extractLsb' 0 8 ++ 0x05#8 := rfl

theorem errorWord_reservedBits (w : Word) :
    errorWord (illegalCommand .reservedBits w) = 0x02#8 ++ w.extractLsb' 0 8 ++ 0x05#8 := rfl

/-- Settles O7: the completion records the error by which decoding refuses the word. -/
theorem illegalWordsFailAtCompletion : Obligations.IllegalWordsFailAtCompletion := by
  intro s w rest hpending hevents hw hB
  rw [step_of_illegal hpending hevents (decodeCommand_of_illegal hw hB), failedWith,
    errorInfo_illegalCommand]
  split
  case isTrue => rw [errorWord_badOpcode]
  case isFalse => rw [errorWord_reservedBits]

end Sys2Proof.Proofs

/-!
PROOFS. M-sequences: one generation step bit by bit (R131), the recurrence its outputs obey (R134),
the maximal tap values (R134) and the two reference sequences (R133).
-/

namespace Sys2Proof.Proofs

open Sys2Proof Sys2Proof.Machine

/-! ### One generation step (R131) -/

theorem parity_eq (v : Stages) :
    parity v =
      xor (xor (xor (xor (xor (v.getLsbD 0) (v.getLsbD 1)) (v.getLsbD 2)) (v.getLsbD 3))
        (v.getLsbD 4)) (v.getLsbD 5) := by
  simp [parity, List.range_succ]

@[simp] theorem lfsrNext_getLsbD_zero (taps r : Stages) :
    (lfsrNext taps r).getLsbD 0 = parity (taps &&& r) :=
  (BitVec.getLsbD_append ..).trans (by simp)

theorem lfsrNext_getLsbD_succ {j : Nat} (taps r : Stages) (hj : j < 5) :
    (lfsrNext taps r).getLsbD (j + 1) = r.getLsbD j :=
  (BitVec.getLsbD_append ..).trans (by simp [hj])

/-- Settles O12: the shift and the feedback, read off bit by bit. -/
theorem lfsrStepShiftsAndFeedsBack : Obligations.LfsrStepShiftsAndFeedsBack := by
  intro taps r
  refine ⟨rfl, ?feedback, fun j hj => lfsrNext_getLsbD_succ taps r hj⟩
  calc (lfsrNext taps r).getLsbD 0
      _ = parity (taps &&& r) := lfsrNext_getLsbD_zero taps r
      _ = _ := by simp only [parity_eq, BitVec.getLsbD_and]

/-! ### The recurrence of the outputs (R134) -/

/-- A bit moves up one stage a step, until it leaves the register. -/
theorem lfsrNext_iterate_getLsbD {j k : Nat} (taps r : Stages) (hjk : j + k < 6) :
    ((lfsrNext taps)^[k] r).getLsbD (j + k) = r.getLsbD j := by
  induction k with
  | zero => rfl
  | succ k ih =>
    rw [Function.iterate_succ_apply', ← Nat.add_assoc, lfsrNext_getLsbD_succ _ _ (by omega),
      ih (by omega)]

theorem mseq_eq (taps : Stages) :
    mseq taps =
      ((List.range 63).map (fun n => ((lfsrNext taps)^[n] 0x02#6).getLsbD 5),
        (lfsrNext taps)^[63] 0x02#6) :=
  lfsrRun_eq taps 63 0x02#6

/-- Stage `j` of the register after `n` steps is put out `5 - j` steps later. -/
theorem mseq_getD_add {n j k : Nat} (taps : Stages) (hjk : j + k = 5) (hn : n + k < 63) :
    (mseq taps).1.getD (n + k) false = ((lfsrNext taps)^[n] 0x02#6).getLsbD j := by
  have hout : (mseq taps).1.getD (n + k) false = ((lfsrNext taps)^[n + k] 0x02#6).getLsbD 5 := by
    simp [mseq_eq, hn]
  rw [hout, Nat.add_comm n k, Function.iterate_add_apply, ← hjk,
    lfsrNext_iterate_getLsbD _ _ (by omega)]

/-- The first six outputs are the seed's stages, from the last one down. -/
theorem mseq_getD_of_seed {j k : Nat} (taps : Stages) (hjk : j + k = 5) :
    (mseq taps).1.getD k false = (0x02#6 : Stages).getLsbD j := by
  simpa using mseq_getD_add (n := 0) taps hjk (by omega)

/-- The feedback of the register after `n` steps is put out at step `n + 6`. -/
theorem mseq_getD_add_six {n : Nat} (taps : Stages) (hn : n + 6 < 63) :
    (mseq taps).1.getD (n + 6) false = parity (taps &&& (lfsrNext taps)^[n] 0x02#6) := by
  rw [show n + 6 = (n + 1) + 5 by omega, mseq_getD_add (j := 0) taps rfl (by omega),
    Function.iterate_succ_apply', lfsrNext_getLsbD_zero]

/-- Settles O14: output `n + 6` is the feedback of the register after `n` steps, whose six stages
are the outputs `n` to `n + 5`. -/
theorem outputsObeyTheRecurrence : Obligations.OutputsObeyTheRecurrence := by
  intro taps out
  refine ⟨by simp [mseq_eq], mseq_getD_of_seed (j := 5) taps rfl,
    mseq_getD_of_seed (j := 4) taps rfl, mseq_getD_of_seed (j := 3) taps rfl,
    mseq_getD_of_seed (j := 2) taps rfl, mseq_getD_of_seed (j := 1) taps rfl,
    mseq_getD_of_seed (j := 0) taps rfl, fun n hn => ?_⟩
  have hstage (j k : Nat) (hjk : j + k = 5) :
      ((lfsrNext taps)^[n] 0x02#6).getLsbD j = out (n + k) :=
    (mseq_getD_add taps hjk (by omega)).symm
  calc out (n + 6)
      _ = parity (taps &&& (lfsrNext taps)^[n] 0x02#6) := mseq_getD_add_six taps hn
      _ = _ := by
        simp only [parity_eq, BitVec.getLsbD_and, hstage 0 5 rfl, hstage 1 4 rfl, hstage 2 3 rfl,
          hstage 3 2 rfl, hstage 4 1 rfl, hstage 5 0 rfl, Nat.add_zero]

/-! ### The maximal tap values (R134) -/

/-- A first return at step 63 is a return at 63 and at neither of its maximal divisors. -/
theorem first_return_63_iff {α : Type} (f : α → α) (x : α) :
    (f^[63] x = x ∧ ∀ n, 0 < n → n < 63 → f^[n] x ≠ x) ↔
      f^[63] x = x ∧ f^[21] x ≠ x ∧ f^[9] x ≠ x := by
  refine and_congr_right fun h63 =>
    ⟨fun h => ⟨h 21 (by omega) (by omega), h 9 (by omega) (by omega)⟩,
      fun ⟨h21, h9⟩ n hpos hlt hn => ?_⟩
  have hgcd : f^[Nat.gcd 63 n] x = x := Function.IsPeriodicPt.gcd (f := f) h63 hn
  have hdvd : Nat.gcd 63 n ∣ 21 ∨ Nat.gcd 63 n ∣ 9 := by
    interval_cases n <;> decide
  rcases hdvd with hdvd | hdvd
  · exact h21 (Function.IsPeriodicPt.trans_dvd (f := f) hgcd hdvd)
  · exact h9 (Function.IsPeriodicPt.trans_dvd (f := f) hgcd hdvd)

/-- The parity of a number below 64: the sum of its bits, each the lowest of a quotient. -/
def parityNat (v : Nat) : Nat := (v + v / 2 + v / 4 + v / 8 + v / 16 + v / 32) % 2

/-- The generation step on numbers, which evaluates faster than on bit vectors. -/
def lfsrNat (t r : Nat) : Nat := 2 * r % 64 + parityNat (t &&& r)

theorem toNat_parity : ∀ v : Stages, (parity v).toNat = parityNat v.toNat := by decide +kernel

theorem toNat_lfsrNext (taps r : Stages) :
    (lfsrNext taps r).toNat = lfsrNat taps.toNat r.toNat := by
  have happend : (lfsrNext taps r).toNat = (r.toNat % 32) <<< 1 ||| (parity (taps &&& r)).toNat :=
    (BitVec.toNat_append ..).trans (by simp)
  rw [happend, ← Nat.shiftLeft_add_eq_or_of_lt (Bool.toNat_lt _), toNat_parity, BitVec.toNat_and,
    lfsrNat, Nat.shiftLeft_eq]
  omega

theorem lfsrNext_iterate_eq_iff (taps r r' : Stages) (n : Nat) :
    (lfsrNext taps)^[n] r = r' ↔ (lfsrNat taps.toNat)^[n] r.toNat = r'.toNat := by
  have hcomm : Function.Semiconj BitVec.toNat (lfsrNext taps) (lfsrNat taps.toNat) :=
    toNat_lfsrNext taps
  rw [← BitVec.toNat_inj, hcomm.iterate_right n r]

/-- The tap values R134 names. -/
def maximalTaps : List Stages := [0x21#6, 0x2D#6, 0x30#6, 0x33#6, 0x36#6, 0x39#6]

/-- Which of the 64 tap values return at 63, and not at 21 nor at 9, by evaluation. -/
theorem lfsrNat_returns_only_at_63_iff : ∀ t < 64,
    ((lfsrNat t)^[63] 2 = 2 ∧ (lfsrNat t)^[21] 2 ≠ 2 ∧ (lfsrNat t)^[9] 2 ≠ 2) ↔
      BitVec.ofNat 6 t ∈ maximalTaps := by
  decide +kernel

/-- Settles O15: an earlier return would come at a proper divisor of 63, and the returns at 63, 21
and 9 are evaluated. -/
theorem sixMaximalTapValues : Obligations.SixMaximalTapValues := by
  intro taps reg
  have hreg (n : Nat) : reg n = 0x02#6 ↔ (lfsrNat taps.toNat)^[n] 2 = 2 :=
    lfsrNext_iterate_eq_iff taps 0x02#6 0x02#6 n
  have heval := lfsrNat_returns_only_at_63_iff taps.toNat taps.isLt
  rw [BitVec.ofNat_toNat, BitVec.setWidth_eq] at heval
  calc (reg 63 = 0x02#6 ∧ ∀ n, 0 < n → n < 63 → reg n ≠ 0x02#6)
      _ ↔ reg 63 = 0x02#6 ∧ reg 21 ≠ 0x02#6 ∧ reg 9 ≠ 0x02#6 := first_return_63_iff _ _
      _ ↔ taps ∈ maximalTaps := by rw [← heval, Ne, Ne, hreg, hreg, hreg]

/-! ### The reference sequences (R133) -/

theorem mseq_snd_of_maximal {taps : Stages} (h : taps ∈ maximalTaps) :
    (mseq taps).2 = 0x02#6 := by
  rw [mseq_eq]
  exact ((sixMaximalTapValues taps).2 h).1

/-- Settles O16: both tap values are maximal, so the register is back at the seed; the outputs are
evaluated. -/
theorem referenceSequences : Obligations.ReferenceSequences :=
  ⟨by decide +kernel, mseq_snd_of_maximal (by decide),
    by decide +kernel, mseq_snd_of_maximal (by decide)⟩

end Sys2Proof.Proofs

/-!
PROOFS. Gold codes: the shifts and the codes as numbers and chips (R151), the three ordered checks
of BUILD_GOLD and what it does past them (R152), and the reference table (R153).
-/

namespace Sys2Proof.Proofs

open Sys2Proof Sys2Proof.Machine

/-! ### The shifts and the codes (R151) -/

/-- Shift `k` of SHIFTS, as a number. -/
def shiftNat (s : State) (k : Fin 4) : Nat := (s.shifts.toNat >>> (8 * k.val)) % 256

/-- The code of R151 chip by chip: `a[i] XOR b[(i - shift) mod 63]`. -/
def goldChips (a b : List Bool) (shift : Nat) : List Bool :=
  (List.range 63).map (fun i => xor (a.getD i false) (b.getD ((i + 63 - shift) % 63) false))

/-- The code of symbol `k` under the current taps and shifts. -/
def symbolChips (s : State) (k : Fin 4) : List Bool :=
  goldChips (mseq s.tapsA).1 (mseq s.tapsB).1 (shiftNat s k)

theorem toNat_shiftField (s : State) (k : Fin 4) : (shiftField s k).toNat = shiftNat s k :=
  BitVec.extractLsb'_toNat ..

theorem shiftNat_lt (s : State) (k : Fin 4) : shiftNat s k < 256 :=
  Nat.mod_lt _ (by decide)

theorem shiftField_inj {s : State} {j k : Fin 4} :
    shiftField s j = shiftField s k ↔ shiftNat s j = shiftNat s k := by
  rw [← BitVec.toNat_inj, toNat_shiftField, toNat_shiftField]

@[simp] theorem mseq_length (taps : Stages) : (mseq taps).1.length = 63 := by
  simp [mseq_eq]

/-- Rotating right by a shift below 63 is reading `63 - shift` places ahead, cyclically. -/
theorem goldCode_eq_goldChips {a b : List Bool} {shift : Nat} (ha : a.length = 63)
    (hshift : shift < 63) : goldCode a b shift = goldChips a b shift := by
  refine List.ext_getElem (by simp [goldCode, goldChips, rotR, ha, Config.codeLen])
    fun i hi hi' => ?_
  have hlt : i < 63 := by simpa [goldChips] using hi'
  have hplace : i + 63 - shift = i + (63 - shift) := by omega
  simp [goldCode, goldChips, rotR, Config.codeLen, hplace, ha, hlt]

@[simp] theorem four_get_ofFn {α : Type} (f : Fin 4 → α) : ∀ k, (Four.ofFn f).get k = f k
  | 0 | 1 | 2 | 3 => rfl

theorem goldTable_eq {s : State} (hrange : ∀ k, shiftNat s k < 63) :
    goldTable s = Four.ofFn (symbolChips s) := by
  refine congrArg Four.ofFn (funext fun k => ?_)
  rw [toNat_shiftField]
  exact goldCode_eq_goldChips (mseq_length _) (hrange k)

/-! ### The first symbol and the first pair of symbols (R152) -/

/-- The pair `p` of symbols, its lower index first, is checked before the pair `q`. -/
def PairBefore (p q : Fin 4 × Fin 4) : Prop :=
  p.1 < p.2 ∧ (p.1 < q.1 ∨ (p.1 = q.1 ∧ p.2 < q.2))

theorem mem_symbols (k : Fin 4) : k ∈ symbols := by
  revert k
  decide

theorem symbols_pairwise : symbols.Pairwise (· < ·) := by decide

theorem mem_symbolPairs {j k : Fin 4} : (j, k) ∈ symbolPairs ↔ j < k := by
  revert j k
  decide

theorem symbolPairs_pairwise : symbolPairs.Pairwise PairBefore := by
  unfold PairBefore
  decide

/-- In a list in the order `r`, the search stops at a hit before which there is none. -/
theorem find?_eq_some_of_first {α : Type} {r : α → α → Prop} {p : α → Bool} {l : List α} {x : α}
    (hl : l.Pairwise r) (hmem : x ∈ l) (hx : p x = true) (hfirst : ∀ y, r y x → ¬ p y = true) :
    l.find? p = some x := by
  obtain ⟨before, after, rfl⟩ := List.append_of_mem hmem
  obtain ⟨-, -, hr⟩ := List.pairwise_append.1 hl
  refine List.find?_eq_some_iff_append.2 ⟨hx, before, after, rfl, fun y hy => ?_⟩
  simpa using hfirst y (hr y hy x List.mem_cons_self)

section Pairs

variable {α : Type} [BEq α] [LawfulBEq α] {f : Fin 4 → α}

theorem find?_symbolPairs_eq_none (hdistinct : ∀ j k, j < k → f j ≠ f k) :
    symbolPairs.find? (fun p => f p.1 == f p.2) = none :=
  List.find?_eq_none.2 fun p hp heq =>
    hdistinct p.1 p.2 (mem_symbolPairs.1 hp) (beq_iff_eq.1 heq)

theorem find?_symbolPairs_eq_some {j k : Fin 4} (hjk : j < k) (heq : f j = f k)
    (hfirst : ∀ p, PairBefore p (j, k) → f p.1 ≠ f p.2) :
    symbolPairs.find? (fun p => f p.1 == f p.2) = some (j, k) :=
  find?_eq_some_of_first symbolPairs_pairwise (mem_symbolPairs.2 hjk) (beq_iff_eq.2 heq)
    fun p hp hbeq => hfirst p hp (beq_iff_eq.1 hbeq)

end Pairs

/-! ### The three checks (R152) -/

section Checks

variable {s : State}

theorem shiftRangeError_eq_none (hrange : ∀ k, shiftNat s k < 63) : shiftRangeError s = none := by
  have hfind : symbols.find? (fun k => 63 ≤ (shiftField s k).toNat) = none :=
    List.find?_eq_none.2 fun k _ => by simpa [toNat_shiftField] using hrange k
  rw [shiftRangeError, hfind, Option.map_none]

theorem shiftRangeError_eq_some {k : Fin 4} (hk : 63 ≤ shiftNat s k)
    (hfirst : ∀ j, j < k → shiftNat s j < 63) :
    shiftRangeError s = some (.shiftRange k (shiftField s k)) := by
  have hfind : symbols.find? (fun k => 63 ≤ (shiftField s k).toNat) = some k :=
    find?_eq_some_of_first symbols_pairwise (mem_symbols k)
      (by simpa [toNat_shiftField] using hk)
      fun j hj => by simpa [toNat_shiftField] using hfirst j hj
  rw [shiftRangeError, hfind, Option.map_some]

theorem shiftDupError_eq_none (hdistinct : ∀ j k, j < k → shiftNat s j ≠ shiftNat s k) :
    shiftDupError s = none := by
  rw [shiftDupError, find?_symbolPairs_eq_none fun j k hjk heq =>
    hdistinct j k hjk (shiftField_inj.1 heq), Option.map_none]

theorem shiftDupError_eq_some {j k : Fin 4} (hjk : j < k) (heq : shiftNat s j = shiftNat s k)
    (hfirst : ∀ p, PairBefore p (j, k) → shiftNat s p.1 ≠ shiftNat s p.2) :
    shiftDupError s = some (.shiftDup j k) := by
  rw [shiftDupError, find?_symbolPairs_eq_some hjk (shiftField_inj.2 heq) fun p hp hfield =>
    hfirst p hp (shiftField_inj.1 hfield), Option.map_some]

theorem goldDupError_eq_none (hrange : ∀ k, shiftNat s k < 63)
    (hdistinct : ∀ j k, j < k → symbolChips s j ≠ symbolChips s k) :
    goldDupError (goldTable s) = none := by
  simp only [goldDupError, goldTable_eq hrange, four_get_ofFn,
    find?_symbolPairs_eq_none hdistinct, Option.map_none]

theorem goldDupError_eq_some {j k : Fin 4} (hrange : ∀ k, shiftNat s k < 63) (hjk : j < k)
    (heq : symbolChips s j = symbolChips s k)
    (hfirst : ∀ p, PairBefore p (j, k) → symbolChips s p.1 ≠ symbolChips s p.2) :
    goldDupError (goldTable s) = some (.goldNotDistinct j k) := by
  simp only [goldDupError, goldTable_eq hrange, four_get_ofFn,
    find?_symbolPairs_eq_some hjk heq hfirst, Option.map_some]

/-! ### BUILD_GOLD, by its first failing check -/

theorem buildGold_of_shiftRange {e : CmdError} (h : shiftRangeError s = some e) :
    buildGold s = .failed s e := by
  rw [buildGold, h]

theorem buildGold_of_shiftDup {e : CmdError} (hrange : shiftRangeError s = none)
    (h : shiftDupError s = some e) : buildGold s = .failed s e := by
  rw [buildGold, hrange, h]

theorem buildGold_of_goldDup {e : CmdError} (hrange : shiftRangeError s = none)
    (hdup : shiftDupError s = none) (h : goldDupError (goldTable s) = some e) :
    buildGold s = .failed s e := by
  rw [buildGold, hrange, hdup, h]

theorem buildGold_of_distinct (hrange : ∀ k, shiftNat s k < 63)
    (hshifts : ∀ j k, j < k → shiftNat s j ≠ shiftNat s k)
    (hcodes : ∀ j k, j < k → symbolChips s j ≠ symbolChips s k) :
    buildGold s = .committed (goldCommit s) := by
  rw [buildGold, shiftRangeError_eq_none hrange, shiftDupError_eq_none hshifts,
    goldDupError_eq_none hrange hcodes]

theorem exec_buildGold_of_failed {e : CmdError} (h : buildGold s = .failed s e) :
    exec .buildGold s = .next (failedWith e s) := by
  rw [exec_eq_complete rfl, commandResult, h, complete_failed]

end Checks

/-- Settles O17: past the three checks the commit holds the table in closed form. -/
theorem buildGoldCommitsTheTable : Obligations.BuildGoldCommitsTheTable := by
  intro s a b shift code hrange hshifts hcodes
  rw [exec_eq_complete rfl, commandResult, buildGold_of_distinct hrange hshifts hcodes,
    complete_committed, goldCommit, goldTable_eq hrange]
  rfl

/-! ### The error words (R302) -/

theorem infoPair_eq {a b : Nat} (hb : b < 256) : infoPair a b = BitVec.ofNat 32 (a * 256 + b) := by
  rw [infoPair, ← Nat.shiftLeft_add_eq_or_of_lt (i := 8) hb, Nat.shiftLeft_eq]

theorem errorInfo_shiftRange (s : State) (k : Fin 4) :
    errorInfo (.shiftRange k (shiftField s k)) = BitVec.ofNat 32 (k.val * 256 + shiftNat s k) := by
  rw [← infoPair_eq (shiftNat_lt s k), ← toNat_shiftField]
  rfl

theorem errorInfo_shiftDup (j k : Fin 4) :
    errorInfo (.shiftDup j k) = BitVec.ofNat 32 (j.val * 256 + k.val) :=
  infoPair_eq (by omega)

theorem errorInfo_goldNotDistinct (j k : Fin 4) :
    errorInfo (.goldNotDistinct j k) = BitVec.ofNat 32 (j.val * 256 + k.val) :=
  infoPair_eq (by omega)

/-- Settles O18: each clause makes its own check the first to fail, at the index or pair it names. -/
theorem buildGoldRefusesBadTables : Obligations.BuildGoldRefusesBadTables := by
  intro s a b shift code before failed
  refine ⟨fun k hk hfirst => ?range, fun hrange => ⟨fun j k hjk heq hfirst => ?dup,
    fun hshifts j k hjk heq hfirst => ?notDistinct⟩⟩
  case range =>
    have hfail := buildGold_of_shiftRange (shiftRangeError_eq_some hk hfirst)
    rw [exec_buildGold_of_failed hfail, failedWith, errorWord_shiftRange, errorInfo_shiftRange]
    rfl
  case dup =>
    have hfail := buildGold_of_shiftDup (shiftRangeError_eq_none hrange)
      (shiftDupError_eq_some hjk heq hfirst)
    rw [exec_buildGold_of_failed hfail, failedWith, errorWord_shiftDup, errorInfo_shiftDup]
  case notDistinct =>
    have hfail := buildGold_of_goldDup (shiftRangeError_eq_none hrange)
      (shiftDupError_eq_none hshifts) (goldDupError_eq_some hrange hjk heq hfirst)
    rw [exec_buildGold_of_failed hfail, failedWith, errorWord_goldNotDistinct,
      errorInfo_goldNotDistinct]

/-! ### The reference table (R153) -/

/-- Settles O19: the reset state's shifts and codes are distinct and its TAPS_B is maximal; the
codes are evaluated. -/
theorem referenceGoldTable : Obligations.ReferenceGoldTable := by
  have hcommit : buildGold State.reset = .committed (goldCommit State.reset) :=
    buildGold_of_distinct (by decide) (by decide) (by decide +kernel)
  have hlfsr : (goldCommit State.reset).lfsr = 0x02#6 := by
    rw [goldCommit_lfsr, mseq_snd_of_maximal (by decide)]
  exact ⟨hcommit, by decide +kernel, by decide +kernel, by decide +kernel, by decide +kernel, hlfsr⟩

end Sys2Proof.Proofs

/-!
PROOFS. Spreading: a list of equal blocks read by block and place, SPREAD by its first failing check
(R170), and the chips of each symbol (R171, R172).
-/

namespace Sys2Proof.Proofs

open Sys2Proof Sys2Proof.Machine

/-! ### A list of blocks of one length -/

section Blocks

variable {α β : Type} {l : List α} {f : α → List β} {n : Nat}

theorem length_flatMap_blocks (hf : ∀ a, (f a).length = n) :
    (l.flatMap f).length = n * l.length := by
  simp [List.length_flatMap, hf, Nat.mul_comm]

/-- Element `i` of block `k` stands `n * k` places further on than in its block. -/
theorem getElem?_flatMap_blocks (hf : ∀ a, (f a).length = n) {i : Nat} (hi : i < n) (k : Nat) :
    (l.flatMap f)[n * k + i]? = l[k]?.bind (fun a => (f a)[i]?) := by
  induction l generalizing k with
  | nil => rfl
  | cons a rest ih =>
    rw [List.flatMap_cons]
    cases k with
    | zero => rw [Nat.mul_zero, Nat.zero_add, List.getElem?_append_left ((hf a).symm ▸ hi)]; rfl
    | succ k =>
      have hplace : n * (k + 1) + i - (f a).length = n * k + i := by rw [hf, Nat.mul_succ]; omega
      have hpast : (f a).length ≤ n * (k + 1) + i := by rw [hf, Nat.mul_succ]; omega
      rw [List.getElem?_append_right hpast, hplace, ih, List.getElem?_cons_succ]

end Blocks

/-! ### SPREAD, by its first failing check (R170) -/

section Checks

variable {s : State}

theorem spread_of_noGold (hgold : s.gold.valid = false) :
    spread s = .failed s (.noGold (flagByte s)) := by
  rw [spread, if_pos hgold]

theorem spread_of_emptyBits (hgold : s.gold.valid = true) (hbits : s.nBits = 0#32) :
    spread s = .failed s .emptyBits := by
  rw [spread, if_neg (by simp [hgold]), if_pos hbits]

theorem spread_of_nBitsRange (hgold : s.gold.valid = true) (hbits : s.nBits ≠ 0#32)
    (hmax : s.maxBits.toNat < s.nBits.toNat) : spread s = .failed s (.nBitsRange s.nBits) := by
  rw [spread, if_neg (by simp [hgold]), if_neg hbits, if_pos hmax]

theorem spread_of_legal (hgold : s.gold.valid = true) (hbits : s.nBits ≠ 0#32)
    (hmax : s.nBits.toNat ≤ s.maxBits.toNat) : spread s = .committed (spreadCommit s) := by
  rw [spread, if_neg (by simp [hgold]), if_neg hbits, if_neg (Nat.not_lt.2 hmax)]

theorem exec_spread_of_failed {e : CmdError} (h : spread s = .failed s e) :
    exec .spread s = .next (failedWith e s) := by
  rw [exec_eq_complete rfl, commandResult, h, complete_failed]

end Checks

/-- Settles O21: each clause makes its own check the first to fail. -/
theorem spreadRefusesBadInput : Obligations.SpreadRefusesBadInput := by
  intro s failed
  refine ⟨fun hgold => ?noGold, fun hgold hbits => ?emptyBits,
    fun hgold hbits hmax => ?nBitsRange⟩
  case noGold =>
    rw [exec_spread_of_failed (spread_of_noGold hgold), failedWith, errorWord_noGold]
    rfl
  case emptyBits =>
    rw [exec_spread_of_failed (spread_of_emptyBits hgold hbits), failedWith, errorWord_emptyBits]
    rfl
  case nBitsRange =>
    rw [exec_spread_of_failed (spread_of_nBitsRange hgold hbits hmax), failedWith,
      errorWord_nBitsRange]
    rfl

/-! ### The chips of each symbol (R171, R172) -/

theorem symbolIndex_eq_ite (b0 b1 : Bool) :
    symbolIndex b0 b1 = if b0 then (if b1 then 3 else 1) else (if b1 then 2 else 0) := by
  cases b0 <;> cases b1 <;> rfl

section Chips

variable {s : State}

theorem spreadChips_length (hcodes : ∀ k, (s.gold.codes.get k).length = 63) :
    (spreadChips s).length = 63 * (s.nBits.toNat / 2) := by
  rw [spreadChips, length_flatMap_blocks fun _ => hcodes _, List.length_range]

/-- Chip `i` of symbol `k` is chip `i` of the symbol's code. -/
theorem spreadChips_getElem? (hcodes : ∀ k, (s.gold.codes.get k).length = 63) {k i : Nat}
    (hk : k < s.nBits.toNat / 2) (hi : i < 63) :
    (spreadChips s)[63 * k + i]? = (s.gold.codes.get (inputSymbol s k))[i]? := by
  rw [spreadChips, getElem?_flatMap_blocks (fun _ => hcodes _) hi, List.getElem?_range hk,
    Option.bind_some]

end Chips

/-- Settles O20: past the three checks SPREAD commits, and the chips it commits are the codes of the
symbols in order. -/
theorem spreadLaysOutTheCodes : Obligations.SpreadLaysOutTheCodes := by
  intro s hgold hpos hmax
  have hbits : s.nBits ≠ 0#32 := fun hzero => by simp [hzero] at hpos
  refine ⟨spreadChips s, ?_, fun hcodes => ⟨spreadChips_length hcodes, fun k i hk hi => ?_⟩⟩
  · rw [exec_eq_complete rfl, commandResult, spread_of_legal hgold hbits hmax, complete_committed]
    rfl
  · rw [spreadChips_getElem? hcodes hk hi, inputSymbol, symbolIndex_eq_ite]

end Sys2Proof.Proofs

/-!
PROOFS. Synthesis and the schedule of its trace: SYNTH by its first failing check (R180, R184), the
samples of each chip pair (R181 to R183), and one segment per symbol (R240, R242).
-/

namespace Sys2Proof.Proofs

open Sys2Proof Sys2Proof.Machine

/-! ### A list of checks taken in order (R302) -/

/-- The error of the first check whose condition holds. -/
def firstFailing (checks : List (Bool × CmdError)) : Option CmdError :=
  (checks.find? (fun c => c.1)).map (fun c => c.2)

@[simp] theorem firstFailing_nil : firstFailing [] = none := rfl

@[simp] theorem firstFailing_cons (fails : Bool) (e : CmdError) (rest : List (Bool × CmdError)) :
    firstFailing ((fails, e) :: rest) = if fails = true then some e else firstFailing rest := by
  cases fails <;> rfl

/-- A check as a table writes it: its condition, its ERR_CODE and its ERR_INFO. -/
def checkRow (c : Bool × CmdError) : Bool × BitVec 24 × Word := (c.1, errorWord c.2, errorInfo c.2)

/-- The first row that holds is the row of the first check that fails. -/
theorem find?_map_checkRow {checks : List (Bool × CmdError)} {row : Bool × BitVec 24 × Word}
    (h : (checks.map checkRow).find? (fun r => r.1) = some row) :
    ∃ e, firstFailing checks = some e ∧ row.2 = (errorWord e, errorInfo e) := by
  rw [List.find?_map, Option.map_eq_some_iff] at h
  obtain ⟨c, hfind, rfl⟩ := h
  have hfirst : checks.find? (fun c => c.1) = some c := hfind
  exact ⟨c.2, by rw [firstFailing, hfirst, Option.map_some], rfl⟩

/-! ### SYNTH, by its first failing check (R180, R184) -/

/-- The table of R184, in its order. -/
def signalChecks (s : State) (nChips : Nat) : List (Bool × CmdError) :=
  [(s.bps == 0#32, .bpsZero),
   (decide (s.spc.toNat < 2), .spcTooSmall s.spc),
   (!finite s.f0, .f0NonFinite s.f0),
   (!finite s.phi0, .phi0NonFinite s.phi0),
   (decide (s.maxSamples.toNat < sampleCount s.spc.toNat nChips),
     .samplesRange 0x04#8 (sampleCount s.spc.toNat nChips))]

/-- Everything SYNTH checks, in order: the chips, then the table of R184. -/
def synthChecks (s : State) : List (Bool × CmdError) :=
  (!s.chip.valid, .noChips (flagByte s)) :: signalChecks s s.chip.nChips.toNat

section Checks

variable {s : State}

theorem signalConfigError_eq_firstFailing (s : State) (nChips : Nat) :
    signalConfigError s nChips = firstFailing (signalChecks s nChips) := by
  simp only [signalConfigError, signalChecks, firstFailing_cons, firstFailing_nil, beq_iff_eq,
    decide_eq_true_eq, Bool.not_eq_true', gt_iff_lt]

theorem synth_of_firstFailing {e : CmdError} (h : firstFailing (synthChecks s) = some e) :
    synth s = .failed s e := by
  rw [synthChecks, firstFailing_cons, ← signalConfigError_eq_firstFailing] at h
  cases hchips : s.chip.valid with
  | false =>
    obtain rfl : CmdError.noChips (flagByte s) = e := by simpa [hchips] using h
    rw [synth, if_pos hchips]
  | true =>
    have hsignal : signalConfigError s s.chip.nChips.toNat = some e := by simpa [hchips] using h
    rw [synth, if_neg (by simp [hchips]), hsignal]

theorem signalConfigError_eq_none {nChips : Nat} (hbps : s.bps ≠ 0#32) (hspc : 2 ≤ s.spc.toNat)
    (hf0 : finite s.f0 = true) (hphi0 : finite s.phi0 = true)
    (hmax : sampleCount s.spc.toNat nChips ≤ s.maxSamples.toNat) :
    signalConfigError s nChips = none := by
  rw [signalConfigError, if_neg hbps, if_neg (Nat.not_lt.2 hspc), if_neg (by simp [hf0]),
    if_neg (by simp [hphi0]), if_neg (Nat.not_lt.2 hmax)]

theorem synth_of_legal (hchips : s.chip.valid = true)
    (h : signalConfigError s s.chip.nChips.toNat = none) :
    synth s = .committed (synthCommit s) := by
  rw [synth, if_neg (by simp [hchips]), h]

theorem exec_synth_of_failed {e : CmdError} (h : synth s = .failed s e) :
    exec .synth s = .next (failedWith e s) := by
  rw [exec_eq_complete rfl, commandResult, h, complete_failed]

/-- The checks with the codes and infos of R302. -/
theorem map_checkRow_synthChecks (s : State) :
    (synthChecks s).map checkRow =
      [(!s.chip.valid, 0x020404#24, (flagByte s).setWidth 32),
       (s.bps == 0#32, 0x010401#24, 0#32),
       (decide (s.spc.toNat < 2), 0x020401#24, s.spc),
       (!finite s.f0, 0x090401#24, s.f0.extractLsb' 32 32),
       (!finite s.phi0, 0x0A0401#24, s.phi0.extractLsb' 32 32),
       (decide (s.maxSamples.toNat < sampleCount s.spc.toNat s.chip.nChips.toNat), 0x080401#24,
         saturate32 (sampleCount s.spc.toNat s.chip.nChips.toNat))] := by
  simp only [synthChecks, signalChecks, List.map_cons, List.map_nil, checkRow, errorWord_noChips,
    errorWord_bpsZero, errorWord_spcTooSmall, errorWord_f0NonFinite, errorWord_phi0NonFinite,
    errorWord_samplesRange_synth, errorInfo]

end Checks

/-- Settles O23: the statement's rows are those of SYNTH's checks, so its first row that holds is
the check SYNTH fails at. -/
theorem synthRefusesBadParameters : Obligations.SynthRefusesBadParameters := by
  intro s samples rows row hrow
  have hrows : rows = (synthChecks s).map checkRow := (map_checkRow_synthChecks s).symm
  obtain ⟨e, hfirst, hcode⟩ := find?_map_checkRow (hrows ▸ hrow)
  rw [exec_synth_of_failed (synth_of_firstFailing hfirst), hcode, failedWith]

/-! ### The samples of each chip pair (R180 to R183) -/

/-- Sample `j` of pair `p` is what its pair and its index give. -/
theorem pairSamples_getElem? {s : State} (f : Nat → Nat → F64) {p j : Nat}
    (hp : p < s.chip.nChips.toNat / 2) (hj : j < 2 * s.spc.toNat) :
    (pairSamples s f)[p * (2 * s.spc.toNat) + j]? = some (f p (p * (2 * s.spc.toNat) + j)) := by
  rw [pairSamples, Nat.mul_comm p, getElem?_flatMap_blocks (by simp) hj, List.getElem?_range hp,
    Option.bind_some, List.getElem?_map, List.getElem?_range hj, Option.map_some, Nat.mul_comm p]

/-- Settles O22: past its checks SYNTH commits, and each rail and the carrier is a list of chip
pairs. -/
theorem synthModulatesTheChips : Obligations.SynthModulatesTheChips := by
  intro s hchips hbps hspc hf0 hphi0 hmax
  have hlegal : signalConfigError s s.chip.nChips.toNat = none :=
    signalConfigError_eq_none hbps hspc hf0 hphi0 hmax
  refine ⟨synthI s, synthQ s, synthEnv s, ?commit, pairSamples_length s _, ?lengthQ, ?lengthEnv,
    fun p j hp hj => ⟨pairSamples_getElem? _ hp hj, pairSamples_getElem? _ hp hj,
      pairSamples_getElem? _ hp hj⟩⟩
  case commit =>
    rw [exec_eq_complete rfl, commandResult, synth_of_legal hchips hlegal, complete_committed]
    rfl
  case lengthQ => rw [synthQ, synthI, pairSamples_length, pairSamples_length]
  case lengthEnv => rw [synthEnv, synthI, pairSamples_length, pairSamples_length]

/-! ### The schedule of a whole number of intervals (R240, R242) -/

section Schedule

variable {l cbf interval startEnd : Nat}

theorem segmentsFrom_of_end {idx : Nat} (hend : l - 1 ≤ idx) (fuel seg : Nat) :
    segmentsFrom l cbf interval startEnd fuel idx seg = [] := by
  cases fuel with
  | zero => rfl
  | succ fuel => rw [segmentsFrom, if_neg (Nat.not_lt.2 hend)]

/-- Past the first segment, `k` intervals and one startEnd before the last index give `k + 1`
segments. -/
theorem length_segmentsFrom {k fuel idx seg : Nat} (hpos : 0 < startEnd) (hseg : 0 < seg)
    (hcbf : cbf = seg + k) (hend : l - 1 = idx + interval * k + startEnd) (hfuel : k < fuel) :
    (segmentsFrom l cbf interval startEnd fuel idx seg).length = k + 1 := by
  have hidx : idx < l - 1 := by omega
  induction k generalizing fuel idx seg with
  | zero =>
    obtain ⟨fuel, rfl⟩ := Nat.exists_eq_succ_of_ne_zero hfuel.ne'
    have hlast : seg = 0 ∨ cbf ≤ seg := by omega
    rw [segmentsFrom, if_pos hidx, if_pos hlast, List.length_cons,
      segmentsFrom_of_end (by omega), List.length_nil]
  | succ k ih =>
    obtain ⟨fuel, rfl⟩ := Nat.exists_eq_succ_of_ne_zero (Nat.ne_zero_of_lt hfuel)
    have hmiddle : ¬ (seg = 0 ∨ cbf ≤ seg) := by omega
    have hnext : l - 1 = idx + interval + interval * k + startEnd := by
      rw [hend, Nat.mul_succ]
      omega
    rw [segmentsFrom, if_pos hidx, if_neg hmiddle, List.length_cons,
      ih (fuel := fuel) (by omega) (by omega) hnext (by omega) (by omega)]

/-- Two startEnds round `k` intervals are cut into `k + 2` segments. -/
theorem length_segments {k : Nat} (hpos : 0 < startEnd) :
    (segments (2 * startEnd + interval * k + 1) (k + 1) interval startEnd).length = k + 2 := by
  have hfirst : 0 < 2 * startEnd + interval * k + 1 - 1 := by omega
  rw [segments, ← Nat.add_assoc _ k 1, segmentsFrom, if_pos hfirst, if_pos (Or.inl rfl),
    List.length_cons, length_segmentsFrom (k := k) hpos Nat.one_pos]
  all_goals omega

/-- The startEnd of R240 is what such a trace has at either end. -/
theorem startEndOf_eq (startEnd interval k : Nat) :
    startEndOf (2 * startEnd + interval * k + 1) interval (k + 1) = startEnd := by
  have hsum : ((2 * startEnd + interval * k + 1 : Nat) : Int) - interval * (k + 1 - 1) - 1 =
      2 * (startEnd : Int) := by push_cast; ring
  rw [startEndOf, hsum, Int.mul_tdiv_cancel_left _ (by decide)]

end Schedule

/-! ### The trace of n symbols (R183, R221) -/

/-- `n` symbols give a trace of `n - 2` intervals with `SPC·(floor(n/2) + 31)` samples at either
end. -/
theorem traceLength_eq (spc k : Nat) :
    2 * spc * (63 * (k + 2) / 2) + 1 - 62 * spc =
      2 * (spc * ((k + 2) / 2 + 31)) + 62 * spc * k + 1 := by
  have hpairs : 63 * (k + 2) / 2 = 31 * (k + 2) + (k + 2) / 2 := by omega
  have hsum : 2 * spc * (31 * (k + 2) + (k + 2) / 2) + 1 =
      2 * (spc * ((k + 2) / 2 + 31)) + 62 * spc * k + 1 + 62 * spc := by ring
  rw [hpairs, hsum, Nat.add_sub_cancel]

/-- Settles O32: the trace has the two ends and `n - 2` intervals that the schedule cuts it into. -/
theorem oneSegmentPerSymbol : Obligations.OneSegmentPerSymbol := by
  intro n spc hn hspc l startEnd
  obtain ⟨k, rfl⟩ := Nat.exists_eq_add_of_le' hn
  have hpos : 0 < spc * ((k + 2) / 2 + 31) := Nat.mul_pos (by omega) (by omega)
  have hl : l = 2 * (spc * ((k + 2) / 2 + 31)) + 62 * spc * k + 1 := traceLength_eq spc k
  have hcbf : ((k + 2 : Nat) : Int) - 1 = k + 1 := by omega
  have hstart : startEnd = (spc * ((k + 2) / 2 + 31) : Nat) := by
    rw [show startEnd = startEndOf l (62 * spc) ((k + 2 : Nat) - 1) from rfl, hcbf, hl,
      startEndOf_eq]
  rw [hstart, Int.toNat_natCast, hl]
  exact ⟨Int.natCast_pos.2 hpos, length_segments hpos⟩

end Sys2Proof.Proofs

/-!
PROOFS. Noise injection: the range of a draw (R201), the samples and the draws they take (R201,
R202), and ADD_NOISE by its first failing check (R200, R203 to R205).
-/

namespace Sys2Proof.Proofs

open Sys2Proof Sys2Proof.Machine

/-! ### The range of a draw (R201) -/

/-- The encoding without its sign is the exponent field above the fraction field. -/
theorem fMagnitude_eq (a : F64) : fMagnitude a = fExp a * 2 ^ 52 + fFrac a := by
  simp only [fMagnitude, fExp, fFrac, BitVec.extractLsb'_toNat, Nat.shiftRight_eq_div_pow]
  omega

theorem fIsNaN_eq_false_of_le_one {a : F64} (h : fMagnitude a ≤ fMagnitude fOne) :
    fIsNaN a = false := by
  have hone : fMagnitude fOne = 0x3FF * 2 ^ 52 := by decide
  have hexp : fExp a ≠ 0x7FF := by
    rw [fMagnitude_eq] at h
    omega
  simp [fIsNaN, hexp]

/-- A magnitude bounds the place in the order of values on both sides. -/
theorem fOrder_bounds (a : F64) : -(fMagnitude a : Int) ≤ fOrder a ∧ fOrder a ≤ fMagnitude a := by
  unfold fOrder
  split <;> omega

theorem fMagnitude_uniformDraw_le (place : Nat) :
    fMagnitude (uniformDraw place) ≤ fMagnitude fOne := by
  unfold uniformDraw
  simp only
  split
  case isTrue hin => exact hin
  case isFalse => decide

/-- Settles O26: a draw's magnitude is at most that of 1.0, so it is a number between the two. -/
theorem uniformDrawsStayInRange : Obligations.UniformDrawsStayInRange := by
  intro place
  have hle := fMagnitude_uniformDraw_le place
  obtain ⟨hlow, hhigh⟩ := fOrder_bounds (uniformDraw place)
  have hone : fOrder fOne = fMagnitude fOne := by decide
  have hminus : fOrder (fneg fOne) = -(fMagnitude fOne : Int) := by decide
  refine ⟨fIsNaN_eq_false_of_le_one hle, ?_, ?_⟩
  · have hnot : ¬ fOrder fOne < fOrder (uniformDraw place) := by omega
    simp [fgt, hnot]
  · have hnot : ¬ fOrder (uniformDraw place) < fOrder (fneg fOne) := by omega
    simp [fgt, hnot]

/-! ### The samples and the draws they take (R201, R202) -/

/-- Sample by sample, the source that NOISE_SRC selects. -/
theorem gaussianSamples_eq (s : State) (n : Nat) :
    gaussianSamples s n = (List.range n).map (fun k =>
      if s.ctrl.noiseSrc then readNraw s k else uniformGaussian s.noiseState k) := by
  unfold gaussianSamples
  split <;> rfl

theorem gaussianSamples_of_nraw {s : State} (h : s.ctrl.noiseSrc = true) (n : Nat) :
    gaussianSamples s n = (List.range n).map (readNraw s) := by
  rw [gaussianSamples, if_pos h]

/-- Taking draws moves the place of the stream and nothing else. -/
theorem takeDraws_eq (s : State) (n : Nat) :
    takeDraws s n = { s with
      noiseState := if s.ctrl.noiseSrc then s.noiseState else s.noiseState + 12 * n } := by
  unfold takeDraws
  split <;> rfl

theorem takeDraws_of_nraw {s : State} (h : s.ctrl.noiseSrc = true) (n : Nat) :
    takeDraws s n = s := by
  rw [takeDraws, if_pos h]

/-- A sequence read to its own length is the sequence. -/
theorem samplesOf_of_length {xs : List F64} {n : Nat} (h : xs.length = n) :
    samplesOf xs n = xs := by
  rw [samplesOf, ← h, List.takeD_eq_take _ le_rfl, List.take_length]

/-- norm and RX depend on the signal and SNR_DB only, which the draws leave alone. -/
theorem gaussNorm_takeDraws (g : List F64) (s : State) (n : Nat) :
    gaussNorm g (takeDraws s n) = gaussNorm g s := by
  rw [takeDraws_eq]
  rfl

theorem noisyRx_takeDraws (g : List F64) (norm : F64) (s : State) (n : Nat) :
    noisyRx g norm (takeDraws s n) = noisyRx g norm s := by
  rw [takeDraws_eq]
  rfl

/-! ### The first sample that is not finite -/

theorem firstNonFinite_eq_none {xs : List F64} (h : ∀ x ∈ xs, finite x = true) :
    firstNonFinite xs = none :=
  List.findIdx?_eq_none_iff.2 fun x hx => by rw [h x hx]; rfl

theorem firstNonFinite_eq_some {xs : List F64} {k : Nat} {x : F64} (hk : xs[k]? = some x)
    (hx : finite x = false) (hfirst : ∀ j y, j < k → xs[j]? = some y → finite y = true) :
    firstNonFinite xs = some k := by
  obtain ⟨hlt, rfl⟩ := List.getElem?_eq_some_iff.1 hk
  refine List.findIdx?_eq_some_iff_getElem.2 ⟨hlt, by rw [hx]; rfl, fun j hj => ?_⟩
  rw [hfirst j _ hj (List.getElem?_eq_getElem (hj.trans hlt))]
  decide

/-! ### ADD_NOISE, by its first failing check (R200, R205) -/

section Checks

variable {g : List F64} {s : State}

theorem addNoise_of_noSignal (h : s.sig.valid = false) :
    addNoise s = .failed s (.noSignal 0x05#8 (flagByte s)) := by
  rw [addNoise, if_pos h]

theorem addNoise_of_signal (h : s.sig.valid = true) :
    addNoise s =
      injectNoise (gaussianSamples s s.sig.nSamp.toNat) (takeDraws s s.sig.nSamp.toNat) := by
  rw [addNoise, if_neg (by simp [h])]

theorem injectNoise_of_noiseNonFinite {k : Nat} (hg : firstNonFinite g = some k) :
    injectNoise g s = .failed s (.noiseNonFinite k) := by
  rw [injectNoise, hg]

theorem injectNoise_of_energyZero (hg : firstNonFinite g = none)
    (hen : feq (energy g) fZero = true) : injectNoise g s = .failed s .noiseEnergyZero := by
  simp only [injectNoise, hg, if_pos hen]

theorem injectNoise_of_normNonFinite (hg : firstNonFinite g = none)
    (hen : feq (energy g) fZero = false) (hnorm : finite (gaussNorm g s) = false) :
    injectNoise g s = .failed s (.normNonFinite (gaussNorm g s)) := by
  simp only [injectNoise, hg, hen, Bool.false_eq_true, if_false, if_pos hnorm]

theorem injectNoise_of_finite (hg : firstNonFinite g = none)
    (hen : feq (energy g) fZero = false) (hnorm : finite (gaussNorm g s) = true)
    (hrx : firstNonFinite (noisyRx g (gaussNorm g s) s) = none) :
    injectNoise g s =
      .committed (noiseCommit g (gaussNorm g s) (noisyRx g (gaussNorm g s) s) s) := by
  simp only [injectNoise, hg, hen, hnorm, hrx, Bool.false_eq_true, Bool.true_eq_false, if_false]

theorem exec_addNoise_of_failed {t : State} {e : CmdError} (h : addNoise s = .failed t e) :
    exec .addNoise s = .next (failedWith e t) := by
  rw [exec_eq_complete rfl, commandResult, h, complete_failed]

end Checks

/-- Settles O24: every check passes, and the envelope's N_SAMP samples are the whole envelope. -/
theorem addNoiseScalesAndAdds : Obligations.AddNoiseScalesAndAdds := by
  intro s hsig hlength n g es en norm noise rx hg hen hnorm hrx
  have hsamples : gaussianSamples s n = g := gaussianSamples_eq s n
  have hgauss : gaussNorm g (takeDraws s n) = norm := by
    rw [gaussNorm_takeDraws, gaussNorm, samplesOf_of_length hlength]
    rfl
  have hreceived : noisyRx g norm (takeDraws s n) = rx := by
    rw [noisyRx_takeDraws, noisyRx, samplesOf_of_length hlength]
    rfl
  have hresult : addNoise s = .committed (noiseCommit g norm rx (takeDraws s n)) := by
    have hinject := injectNoise_of_finite (s := takeDraws s n) (firstNonFinite_eq_none hg) hen
      (by rw [hgauss, hnorm]) (by rw [hgauss, hreceived, firstNonFinite_eq_none hrx])
    rw [addNoise_of_signal hsig, hsamples, hinject, hgauss, hreceived]
  rw [exec_eq_complete rfl, commandResult, hresult, complete_committed, takeDraws_eq]
  rfl

/-- Settles O25: each clause makes its own check the first to fail, after the draws are taken. -/
theorem addNoiseRefusesBadNumbers : Obligations.AddNoiseRefusesBadNumbers := by
  intro s n g norm failed drawn
  refine ⟨fun hsig => ?noSignal, fun hsig => ⟨fun k x hk hx hfirst => ?noiseNonFinite,
    fun hfinite => ⟨fun hen => ?energyZero, fun hen hnorm => ?normNonFinite⟩⟩⟩
  case noSignal =>
    rw [exec_addNoise_of_failed (addNoise_of_noSignal hsig), failedWith,
      errorWord_noSignal_addNoise]
    rfl
  case noiseNonFinite =>
    have hfail := injectNoise_of_noiseNonFinite (s := takeDraws s n)
      (firstNonFinite_eq_some hk hx hfirst)
    rw [exec_addNoise_of_failed ((addNoise_of_signal hsig).trans hfail), failedWith,
      errorWord_noiseNonFinite, takeDraws_eq]
    rfl
  case energyZero =>
    have hfail := injectNoise_of_energyZero (s := takeDraws s n)
      (firstNonFinite_eq_none hfinite) hen
    rw [exec_addNoise_of_failed ((addNoise_of_signal hsig).trans hfail), failedWith,
      errorWord_noiseEnergyZero, takeDraws_eq]
    rfl
  case normNonFinite =>
    have hgauss : gaussNorm g (takeDraws s n) = norm := gaussNorm_takeDraws g s n
    have hfail := injectNoise_of_normNonFinite (s := takeDraws s n)
      (firstNonFinite_eq_none hfinite) hen (by rw [hgauss, hnorm])
    rw [exec_addNoise_of_failed ((addNoise_of_signal hsig).trans hfail), failedWith,
      errorWord_normNonFinite, hgauss, takeDraws_eq]
    rfl

end Sys2Proof.Proofs

/-!
PROOFS. The NRAW path: ADD_NOISE run again (R207), and the noise source that no instruction reads or
moves while NOISE_SRC = 1 (R202).
-/

namespace Sys2Proof.Proofs

open Sys2Proof Sys2Proof.Machine

/-! ### ADD_NOISE on NRAW, and again (R202, R207) -/

/-- The samples that the NRAW path takes. -/
def nrawSamples (s : State) : List F64 := (List.range s.sig.nSamp.toNat).map (readNraw s)

theorem addNoise_of_nraw {s : State} (hsrc : s.ctrl.noiseSrc = true) (hsig : s.sig.valid = true) :
    addNoise s = injectNoise (nrawSamples s) s := by
  rw [addNoise_of_signal hsig, gaussianSamples_of_nraw hsrc, takeDraws_of_nraw hsrc, nrawSamples]

/-- ADD_NOISE's whole commit for Gaussian samples `g`. -/
def injected (g : List F64) (s : State) : State :=
  noiseCommit g (gaussNorm g s) (noisyRx g (gaussNorm g s) s) s

/-- The commit and the completion write nothing that norm is computed from, ENV among it (R207). -/
theorem gaussNorm_finish_injected (g : List F64) (s : State) :
    gaussNorm g (finish (injected g s)) = gaussNorm g s := rfl

theorem noisyRx_finish_injected (g : List F64) (norm : F64) (s : State) :
    noisyRx g norm (finish (injected g s)) = noisyRx g norm s := rfl

theorem nrawSamples_finish_injected (g : List F64) (s : State) :
    nrawSamples (finish (injected g s)) = nrawSamples s := rfl

/-- Samples that passed the checks pass them again on what they were committed to. -/
theorem injectNoise_finish_injected {g : List F64} {s : State}
    (h : injectNoise g s = .committed (injected g s)) :
    injectNoise g (finish (injected g s)) = .committed (injected g (finish (injected g s))) := by
  rcases injectNoise_cases g s with ⟨hg, hen, hnorm, hrx, -⟩ | ⟨e, hfail⟩
  · refine injectNoise_of_finite hg hen ?_ ?_
    · rw [gaussNorm_finish_injected, hnorm]
    · rw [gaussNorm_finish_injected, noisyRx_finish_injected, hrx]
  · cases h.symm.trans hfail

theorem addNoise_finish_injected {s : State} (hsrc : s.ctrl.noiseSrc = true)
    (hsig : s.sig.valid = true)
    (h : injectNoise (nrawSamples s) s = .committed (injected (nrawSamples s) s)) :
    addNoise (finish (injected (nrawSamples s) s)) =
      .committed (injected (nrawSamples s) (finish (injected (nrawSamples s) s))) := by
  have hsrc' : (finish (injected (nrawSamples s) s)).ctrl.noiseSrc = true := hsrc
  have hsig' : (finish (injected (nrawSamples s) s)).sig.valid = true := hsig
  rw [addNoise_of_nraw hsrc' hsig', nrawSamples_finish_injected, injectNoise_finish_injected h]

/-- Settles O28: the second run has the first one's samples, norm and RX, so it commits the same. -/
theorem addNoiseIsRepeatable : Obligations.AddNoiseIsRepeatable := by
  intro s t u hsrc hsig herr hfirst hok hagain
  rw [exec_eq_complete rfl, commandResult, addNoise_of_nraw hsrc hsig] at hfirst
  rcases injectNoise_cases (nrawSamples s) s with ⟨-, -, -, -, hcommit⟩ | ⟨e, hfail⟩
  case inr =>
    rw [hfail] at hfirst
    cases hfirst
    exact clear_flag hok.symm
  case inl =>
    rw [hcommit] at hfirst
    obtain rfl : finish (injected (nrawSamples s) s) = t := by injection hfirst
    rw [exec_eq_complete rfl, commandResult, addNoise_finish_injected hsrc hsig hcommit] at hagain
    obtain rfl : finish (injected (nrawSamples s) (finish (injected (nrawSamples s) s))) = u := by
      injection hagain
    exact ⟨rfl, rfl, herr⟩

/-! ### Commands and the place of the stream (R202) -/

/-- The state with the stream at another place. -/
def withNoiseState (n : Nat) (s : State) : State := { s with noiseState := n }

section NoiseState

variable (n : Nat) (s : State)

theorem complete_withNoiseState (r : Result) :
    complete (mapState (withNoiseState n) r) = withNoiseState n (complete r) := by
  cases r <;> rfl

theorem genMseqA_withNoiseState :
    genMseqA (withNoiseState n s) = mapState (withNoiseState n) (genMseqA s) := by
  rw [genMseqA, show (withNoiseState n s).tapsA = s.tapsA from rfl, genMseqA]
  generalize mseq s.tapsA = m
  rfl

theorem genMseqB_withNoiseState :
    genMseqB (withNoiseState n s) = mapState (withNoiseState n) (genMseqB s) := by
  rw [genMseqB, show (withNoiseState n s).tapsB = s.tapsB from rfl, genMseqB]
  generalize mseq s.tapsB = m
  rfl

theorem goldTable_withNoiseState : goldTable (withNoiseState n s) = goldTable s := rfl

theorem goldCommit_withNoiseState :
    goldCommit (withNoiseState n s) = withNoiseState n (goldCommit s) := by
  simp only [goldCommit, goldTable_withNoiseState,
    show (withNoiseState n s).tapsA = s.tapsA from rfl,
    show (withNoiseState n s).tapsB = s.tapsB from rfl]
  generalize mseq s.tapsA = a, mseq s.tapsB = b
  rfl

theorem buildGold_withNoiseState :
    buildGold (withNoiseState n s) = mapState (withNoiseState n) (buildGold s) := by
  simp only [buildGold, goldTable_withNoiseState, goldCommit_withNoiseState,
    show shiftRangeError (withNoiseState n s) = shiftRangeError s from rfl,
    show shiftDupError (withNoiseState n s) = shiftDupError s from rfl]
  cases shiftRangeError s with
  | some e => rfl
  | none =>
    cases shiftDupError s with
    | some e => rfl
    | none => cases goldDupError (goldTable s) <;> rfl

theorem spread_withNoiseState :
    spread (withNoiseState n s) = mapState (withNoiseState n) (spread s) := by
  simp only [spread, apply_ite (mapState (withNoiseState n))]
  rfl

theorem synth_withNoiseState :
    synth (withNoiseState n s) = mapState (withNoiseState n) (synth s) := by
  simp only [synth, apply_ite (mapState (withNoiseState n)),
    show (withNoiseState n s).chip = s.chip from rfl,
    show ∀ k, signalConfigError (withNoiseState n s) k = signalConfigError s k from fun _ => rfl]
  cases signalConfigError s s.chip.nChips.toNat <;> rfl

/-- Past its samples the noise stage reads nothing of the stream. -/
theorem injectNoise_withNoiseState (g : List F64) :
    injectNoise g (withNoiseState n s) = mapState (withNoiseState n) (injectNoise g s) := by
  simp only [injectNoise,
    show gaussNorm g (withNoiseState n s) = gaussNorm g s from rfl,
    show ∀ norm, noisyRx g norm (withNoiseState n s) = noisyRx g norm s from fun _ => rfl]
  cases firstNonFinite g with
  | some k => rfl
  | none =>
    simp only [apply_ite (mapState (withNoiseState n))]
    cases firstNonFinite (noisyRx g (gaussNorm g s) s) <;> rfl

/-- The one stage that can draw from UNIFORM takes its samples from NRAW while NOISE_SRC = 1. -/
theorem addNoise_withNoiseState (hsrc : s.ctrl.noiseSrc = true) :
    addNoise (withNoiseState n s) = mapState (withNoiseState n) (addNoise s) := by
  cases hsig : s.sig.valid with
  | false =>
    rw [addNoise_of_noSignal hsig, addNoise_of_noSignal (s := withNoiseState n s) hsig]
    rfl
  | true =>
    rw [addNoise_of_nraw hsrc hsig, addNoise_of_nraw (s := withNoiseState n s) hsrc hsig,
      ← injectNoise_withNoiseState]
    rfl

theorem pipelineNoise_withNoiseState (hsrc : s.ctrl.noiseSrc = true) :
    pipelineNoise (withNoiseState n s) = mapState (withNoiseState n) (pipelineNoise s) := by
  rw [pipelineNoise, addNoise_withNoiseState n s hsrc, pipelineNoise,
    apply_ite (mapState (withNoiseState n))]
  rfl

theorem correlate_withNoiseState :
    correlate (withNoiseState n s) = mapState (withNoiseState n) (correlate s) := by
  simp only [correlate, apply_ite (mapState (withNoiseState n))]
  rfl

theorem decodeStage_withNoiseState :
    decodeStage (withNoiseState n s) = mapState (withNoiseState n) (decodeStage s) := by
  simp only [decodeStage, apply_ite (mapState (withNoiseState n))]
  rfl

/-- A change of the state passes through a continuation that lets it pass at the state the first
result ends at. -/
theorem mapState_andThen_at {g : State → State} {f : State → Result} {r : Result}
    (hf : f (g r.state) = mapState g (f r.state)) :
    (mapState g r).andThen f = mapState g (r.andThen f) := by
  cases r with
  | committed s => exact hf
  | failed s e => rfl

/-- The stages before the noise step leave CTRL alone. -/
theorem synthesized_ctrl :
    (((buildGold s).andThen spread).andThen synth).state.ctrl = s.ctrl := by
  have hkeeps : StageKeeps s (((buildGold s).andThen spread).andThen synth).state :=
    andThen_sat (andThen_sat (buildGold_keeps s) fun u hu => hu.trans (spread_keeps u))
      fun u hu => hu.trans (synth_keeps u)
  exact hkeeps.host.ctrl

theorem runPipeline_withNoiseState (hsrc : s.ctrl.noiseSrc = true) :
    runPipeline (withNoiseState n s) = mapState (withNoiseState n) (runPipeline s) := by
  have hnoise := pipelineNoise_withNoiseState n (((buildGold s).andThen spread).andThen synth).state
    (by rw [synthesized_ctrl, hsrc])
  unfold runPipeline
  rw [show precheckError (withNoiseState n s) = precheckError s from rfl]
  cases precheckError s with
  | some e => rfl
  | none =>
    simp only [buildGold_withNoiseState, mapState_andThen (spread_withNoiseState n),
      mapState_andThen (synth_withNoiseState n), mapState_andThen_at hnoise,
      mapState_andThen (correlate_withNoiseState n),
      mapState_andThen (decodeStage_withNoiseState n)]

theorem commandResult_withNoiseState (i : Instr) (hsrc : s.ctrl.noiseSrc = true) :
    commandResult i (withNoiseState n s) = mapState (withNoiseState n) (commandResult i s) := by
  cases i with
  | genMseqA => exact genMseqA_withNoiseState n s
  | genMseqB => exact genMseqB_withNoiseState n s
  | buildGold => exact buildGold_withNoiseState n s
  | spread => exact spread_withNoiseState n s
  | synth => exact synth_withNoiseState n s
  | addNoise => exact addNoise_withNoiseState n s hsrc
  | correlate => exact correlate_withNoiseState n s
  | decode => exact decodeStage_withNoiseState n s
  | runPipeline => exact runPipeline_withNoiseState n s hsrc
  | nop | rd | wr => rfl

/-! ### Transactions and the place of the stream (R202, R341) -/

theorem readReg_withNoiseState (r : Reg) : readReg (withNoiseState n s) r = readReg s r := by
  cases r <;> rfl

theorem hostRead_withNoiseState (be : BitVec 4) (offset : BitVec 12) :
    hostRead be offset (withNoiseState n s) = withNoiseState n (hostRead be offset s) := by
  rw [hostRead, funext (readReg_withNoiseState n s), hostRead]
  cases (target be offset).bind (readReg s) <;> rfl

theorem writePort_withNoiseState (hi : Bool) (d : Word) :
    writePort hi d (withNoiseState n s) = withNoiseState n (writePort hi d s) := by
  simp only [writePort, show (withNoiseState n s).bufSel = s.bufSel from rfl]
  split
  · rfl
  · simp only [apply_ite (withNoiseState n)]
    cases hi <;> rfl
  · simp only [apply_ite (withNoiseState n)]
    cases hi <;> rfl
  · rfl

/-- A register write passes the place of the stream on; the soft reset keeps it (R341). -/
theorem writeReg_withNoiseState (r : Reg) (d : Word) :
    writeReg r d (withNoiseState n s) = withNoiseState n (writeReg r d s) := by
  cases r with
  | ctrl =>
    simp only [writeReg, writeCtrl, apply_ite (withNoiseState n)]
    rfl
  | cmd =>
    simp only [writeReg, writeCmd, apply_ite (withNoiseState n)]
    rfl
  | status =>
    simp only [writeReg, clearStatus_eq]
    rfl
  | bufDataLo => exact writePort_withNoiseState n s false d
  | bufDataHi => exact writePort_withNoiseState n s true d
  | _ => rfl

theorem hostWrite_withNoiseState (be : BitVec 4) (offset : BitVec 12) (d : Word) :
    hostWrite be offset d (withNoiseState n s) = withNoiseState n (hostWrite be offset d s) := by
  rw [hostWrite, hostWrite]
  cases target be offset with
  | none =>
    simp only [badWrite, apply_ite setAerr, apply_ite (withNoiseState n)]
    rfl
  | some r =>
    simp only [acceptedWrite, writeReg_withNoiseState, apply_ite (withNoiseState n)]
    rfl

/-! ### Every instruction (R202) -/

theorem exec_withNoiseState {i : Instr} {t : State} (hsrc : s.ctrl.noiseSrc = true)
    (hexec : exec i s = .next t) : exec i (withNoiseState n s) = .next (withNoiseState n t) := by
  cases hi : isCommand i
  case true =>
    rw [exec_eq_complete hi] at hexec ⊢
    cases hexec
    rw [commandResult_withNoiseState n s i hsrc, complete_withNoiseState]
  case false =>
    cases i with
    | rd be offset d =>
      cases hexec
      rw [exec_rd, hostRead_withNoiseState]
    | wr be offset d =>
      cases hexec
      rw [exec_wr, hostWrite_withNoiseState]
    | _ => cases hi

end NoiseState

/-- Settles O27: the place of the stream passes through every instruction unread. Put back at the
place where it stands it gives the same run, so it has not moved. -/
theorem nrawPathIgnoresTheNoiseSource : Obligations.NrawPathIgnoresTheNoiseSource := by
  intro i s t n hsrc hexec
  refine ⟨?_, exec_withNoiseState n s hsrc hexec⟩
  have hsame : exec i s = .next (withNoiseState s.noiseState t) :=
    exec_withNoiseState s.noiseState s hsrc hexec
  have hfixed : t = withNoiseState s.noiseState t := by
    rw [hexec] at hsame
    injection hsame
  rw [hfixed]
  rfl

end Sys2Proof.Proofs

/-!
PROOFS. Correlation: CORRELATE by its first failing check (R222), the samples of each reference
(R220), and each trace element as a sum over the reference (R221).
-/

namespace Sys2Proof.Proofs

open Sys2Proof Sys2Proof.Machine

/-! ### CORRELATE, by its first failing check (R222) -/

section Checks

variable {s : State}

theorem correlate_of_noSignal (h : s.sig.valid = false) :
    correlate s = .failed s (.noSignal 0x06#8 (flagByte s)) := by
  rw [correlate, if_pos h]

theorem correlate_of_samplesRange (hsig : s.sig.valid = true)
    (hmax : s.maxSamples.toNat < referenceLen s) :
    correlate s = .failed s (.samplesRange 0x06#8 (referenceLen s)) := by
  rw [correlate, if_neg (by simp [hsig]), if_pos hmax]

theorem correlate_of_legal (hsig : s.sig.valid = true)
    (hmax : referenceLen s ≤ s.maxSamples.toNat) :
    correlate s = .committed (correlateCommit s) := by
  rw [correlate, if_neg (by simp [hsig]), if_neg (Nat.not_lt.2 hmax)]

theorem exec_correlate_of_failed {e : CmdError} (h : correlate s = .failed s e) :
    exec .correlate s = .next (failedWith e s) := by
  rw [exec_eq_complete rfl, commandResult, h, complete_failed]

end Checks

/-- Settles O30: each clause makes its own check the first to fail. -/
theorem correlateRefusesBadInput : Obligations.CorrelateRefusesBadInput := by
  intro s failed
  refine ⟨fun hsig => ?noSignal, fun hsig hmax => ?samplesRange⟩
  case noSignal =>
    rw [exec_correlate_of_failed (correlate_of_noSignal hsig), failedWith,
      errorWord_noSignal_correlate]
    rfl
  case samplesRange =>
    rw [exec_correlate_of_failed (correlate_of_samplesRange hsig hmax), failedWith,
      errorWord_samplesRange_correlate]
    rfl

/-! ### The samples of each reference (R220) -/

section References

variable {s : State} {code : List Bool}

theorem reference_length (s : State) (code : List Bool) :
    (reference s code).length = referenceLen s := by
  rw [reference, length_flatMap_blocks (n := s.spc.toNat) (by simp), List.length_range,
    referenceLen, Nat.mul_comm]

/-- Sample `j` of chip pair `i` is the carrier of chips `i` and `i + 1` at its index. -/
theorem reference_getElem? {i j : Nat} (hi : i < Config.refPairs) (hj : j < s.spc.toNat) :
    (reference s code)[i * s.spc.toNat + j]? =
      some (carrierSample s (centred (code.getD i false)) (centred (code.getD (i + 1) false))
        (i * s.spc.toNat + j)) := by
  rw [reference, Nat.mul_comm i, getElem?_flatMap_blocks (by simp) hj, List.getElem?_range hi,
    Option.bind_some, List.getElem?_map, List.getElem?_range hj, Option.map_some, Nat.mul_comm i]

end References

/-! ### Each trace element as a sum over the reference (R221) -/

/-- A zip against a list that fits from index `i` on, written over the list's indices. -/
theorem zipWith_drop_eq_map_range {α β γ : Type} (f : α → β → γ) {xs : List α} {ys : List β}
    {i : Nat} (hfit : i + ys.length ≤ xs.length) (a : α) (b : β) :
    List.zipWith f (xs.drop i) ys =
      (List.range ys.length).map (fun j => f (xs.getD (i + j) a) (ys.getD j b)) := by
  refine List.ext_getElem (by simp; omega) fun j hleft hright => ?_
  have hys : j < ys.length := by simpa using hright
  have hxs : i + j < xs.length := by omega
  simp [hys, hxs]

section Traces

variable {x ref : List F64}

theorem correlateAt_eq {i : Nat} (hfit : i + ref.length ≤ x.length) :
    correlateAt x ref i =
      fdiv (((List.range ref.length).map
          (fun j => fmul (x.getD (i + j) 0#64) (ref.getD j 0#64))).foldl fadd 0#64)
        (f64OfNat ref.length) := by
  rw [correlateAt, zipWith_drop_eq_map_range fmul hfit 0#64 0#64]
  rfl

theorem trace_length (x ref : List F64) : (trace x ref).length = traceLen x.length ref.length := by
  rw [trace, List.length_map, List.length_range]

theorem trace_getElem? {i : Nat} (hi : i < traceLen x.length ref.length) :
    (trace x ref)[i]? = some (correlateAt x ref i) := by
  rw [trace, List.getElem?_map, List.getElem?_range hi, Option.map_some]

end Traces

/-- Settles O29: past its two checks CORRELATE commits, each reference is a list of chip pairs, and
every trace index leaves the whole reference inside RX. -/
theorem correlateMatchesTheReferences : Obligations.CorrelateMatchesTheReferences := by
  intro s hsig hrx hmax
  refine ⟨references s, traces s, ?commit, fun k => ?_⟩
  case commit =>
    rw [exec_eq_complete rfl, commandResult, correlate_of_legal hsig hmax, complete_committed]
    rfl
  have hlength : (reference s (s.gold.codes.get k)).length = 62 * s.spc.toNat :=
    reference_length s _
  rw [references, traces, four_get_ofFn, four_get_ofFn]
  refine ⟨hlength, ?traceLength, fun i j hi hj => reference_getElem? hi hj, fun i hi => ?sample⟩
  case traceLength => rw [trace_length, hrx, hlength, traceLen]
  case sample =>
    rw [trace_getElem? (by rw [hrx, hlength]; exact hi),
      correlateAt_eq (by rw [hrx, hlength]; omega), hlength]

end Sys2Proof.Proofs

/-!
PROOFS. Decoding: the schedule tiles the trace (R242), the decided code has the largest maximum of
its segment (R243), DECODE by its first failing check (R241, R247), the bits and the score it
commits (R244, R246), and why its guards cannot fire in a coherent state (R241, R245).
-/

namespace Sys2Proof.Proofs

open Sys2Proof Sys2Proof.Machine

/-! ### Lists of adjacent segments -/

/-- The segments follow each other without a gap from `lo` to `hi`, and none is empty. -/
inductive Tiles (hi : Nat) : Nat → List (Nat × Nat) → Prop
  | nil : Tiles hi hi []
  | cons {lo mid : Nat} {rest : List (Nat × Nat)} :
      lo < mid → Tiles hi mid rest → Tiles hi lo ((lo, mid) :: rest)

section Tiles

variable {lo hi : Nat} {segs : List (Nat × Nat)}

theorem Tiles.le (h : Tiles hi lo segs) : lo ≤ hi := by
  induction h with
  | nil => exact Nat.le_refl hi
  | cons hlt _ ih => omega

/-- Each segment is a non-empty part of the whole. -/
theorem Tiles.bounds (h : Tiles hi lo segs) {p : Nat × Nat} (hp : p ∈ segs) :
    lo ≤ p.1 ∧ p.1 < p.2 ∧ p.2 ≤ hi := by
  induction h with
  | nil => cases hp
  | cons hlt hrest ih =>
    cases hp with
    | head => exact ⟨Nat.le_refl _, hlt, hrest.le⟩
    | tail _ hp =>
      obtain ⟨hstart, hpos, hend⟩ := ih hp
      exact ⟨by omega, hpos, hend⟩

theorem Tiles.head_start (h : Tiles hi lo segs) (hlt : lo < hi) :
    segs.head?.map (fun p => p.1) = some lo := by
  cases h with
  | nil => omega
  | cons => rfl

theorem Tiles.getLast_end (h : Tiles hi lo segs) (hlt : lo < hi) :
    segs.getLast?.map (fun p => p.2) = some hi := by
  induction h with
  | nil => omega
  | cons _ hrest ih =>
    cases hrest with
    | nil => rfl
    | cons hmid hrest => exact ih (Nat.lt_of_lt_of_le hmid hrest.le)

theorem Tiles.adjacent (h : Tiles hi lo segs) {m : Nat} {p q : Nat × Nat}
    (hp : segs[m]? = some p) (hq : segs[m + 1]? = some q) : p.2 = q.1 := by
  induction h generalizing m with
  | nil => simp at hp
  | cons _ hrest ih =>
    cases m with
    | succ m => exact ih hp hq
    | zero =>
      cases hrest with
      | nil => simp at hq
      | cons =>
        obtain rfl := Option.some.inj hp
        obtain rfl := Option.some.inj hq
        rfl

/-- Every index of the whole lies in exactly one segment. -/
theorem Tiles.exists_unique (h : Tiles hi lo segs) {x : Nat} (hlo : lo ≤ x) (hhi : x < hi) :
    ∃ p ∈ segs, (p.1 ≤ x ∧ x < p.2) ∧ ∀ q ∈ segs, q.1 ≤ x ∧ x < q.2 → q = p := by
  induction h with
  | nil => omega
  | @cons lo mid rest hlt hrest ih =>
    by_cases hx : x < mid
    · refine ⟨(lo, mid), List.mem_cons_self, ⟨hlo, hx⟩, fun q hq hqx => ?_⟩
      cases hq with
      | head => rfl
      | tail _ hq =>
        have hstart := (hrest.bounds hq).1
        omega
    · obtain ⟨p, hp, hpx, hunique⟩ := ih (Nat.le_of_not_lt hx)
      refine ⟨p, List.mem_cons_of_mem _ hp, hpx, fun q hq hqx => ?_⟩
      cases hq with
      | head => exact absurd hqx.2 hx
      | tail _ hq => exact hunique q hq hqx

end Tiles

/-! ### The schedule tiles the trace (R242) -/

section Loop

variable {l cbf interval startEnd fuel idx seg : Nat}

/-- The width of a segment that does not reach the end of the trace. -/
def segmentWidth (cbf interval startEnd seg : Nat) : Nat :=
  if seg = 0 ∨ cbf ≤ seg then startEnd else interval

theorem segmentWidth_pos (hinterval : 0 < interval) (hstart : 0 < startEnd) :
    0 < segmentWidth cbf interval startEnd seg := by
  unfold segmentWidth
  split <;> assumption

/-- The turn that reaches the last index takes the rest of the trace and is the last one. -/
theorem segmentsFrom_last (hidx : idx < l - 1)
    (hlast : l - 1 ≤ idx + segmentWidth cbf interval startEnd seg) :
    segmentsFrom l cbf interval startEnd (fuel + 1) idx seg = [(idx, l)] := by
  rw [segmentWidth] at hlast
  rw [segmentsFrom, if_pos hidx]
  simp only [if_pos hlast, segmentsFrom_of_end hlast]

/-- Any earlier turn takes one width. -/
theorem segmentsFrom_next (hnext : idx + segmentWidth cbf interval startEnd seg < l - 1) :
    segmentsFrom l cbf interval startEnd (fuel + 1) idx seg =
      (idx, idx + segmentWidth cbf interval startEnd seg) ::
        segmentsFrom l cbf interval startEnd fuel
          (idx + segmentWidth cbf interval startEnd seg) (seg + 1) := by
  rw [segmentWidth] at *
  rw [segmentsFrom, if_pos (by omega)]
  simp only [if_neg (Nat.not_le.2 hnext)]

theorem tiles_segmentsFrom (hinterval : 0 < interval) (hstart : 0 < startEnd)
    (hidx : idx < l - 1) (hfuel : l - 1 ≤ idx + fuel) :
    Tiles l idx (segmentsFrom l cbf interval startEnd fuel idx seg) := by
  induction fuel generalizing idx seg with
  | zero => omega
  | succ fuel ih =>
    have hwidth : 0 < segmentWidth cbf interval startEnd seg := segmentWidth_pos hinterval hstart
    rcases Nat.lt_or_ge (idx + segmentWidth cbf interval startEnd seg) (l - 1) with hnext | hlast
    · rw [segmentsFrom_next hnext]
      exact .cons (by omega) (ih hnext (by omega))
    · rw [segmentsFrom_last hidx hlast]
      exact .cons (by omega) .nil

/-- A segment with another one after it has its full width. -/
theorem width_of_segmentsFrom {m : Nat} {p q : Nat × Nat}
    (hp : (segmentsFrom l cbf interval startEnd fuel idx seg)[m]? = some p)
    (hq : (segmentsFrom l cbf interval startEnd fuel idx seg)[m + 1]? = some q) :
    p.2 - p.1 = segmentWidth cbf interval startEnd (seg + m) := by
  induction fuel generalizing idx seg m with
  | zero => simp [segmentsFrom] at hp
  | succ fuel ih =>
    rcases Nat.lt_or_ge idx (l - 1) with hidx | hend
    case inr => simp [segmentsFrom_of_end hend] at hp
    rcases Nat.lt_or_ge (idx + segmentWidth cbf interval startEnd seg) (l - 1) with hnext | hlast
    case inr => simp [segmentsFrom_last hidx hlast] at hq
    rw [segmentsFrom_next hnext] at hp hq
    cases m with
    | zero =>
      obtain rfl := Option.some.inj hp
      exact Nat.add_sub_cancel_left ..
    | succ m => rw [ih hp hq, Nat.succ_add_eq_add_succ]

end Loop

/-- Settles O31: L turns are enough for the loop, whose segments then run from 0 to L, each of its
full width but the last. -/
theorem segmentsTileTheTrace : Obligations.SegmentsTileTheTrace := by
  intro l cbf interval startEnd hl hinterval hstart segs
  have htiles : Tiles l 0 segs := tiles_segmentsFrom hinterval hstart (by omega) (by omega)
  refine ⟨htiles.head_start (by omega), htiles.getLast_end (by omega),
    fun p hp => (htiles.bounds hp).2.1, fun m p q hp hq => ⟨htiles.adjacent hp hq, ?width⟩,
    fun x hx => htiles.exists_unique (Nat.zero_le x) hx⟩
  case width => rw [width_of_segmentsFrom hp hq, Nat.zero_add, segmentWidth]

/-! ### Comparisons of numbers (R11) -/

theorem fgt_eq_true_iff {a b : F64} (ha : fIsNaN a = false) (hb : fIsNaN b = false) :
    fgt a b = true ↔ fOrder b < fOrder a := by
  simp [fgt, ha, hb]

theorem fgt_eq_false_iff {a b : F64} (ha : fIsNaN a = false) (hb : fIsNaN b = false) :
    fgt a b = false ↔ fOrder a ≤ fOrder b := by
  simp [fgt, ha, hb]

theorem fgt_or_feq_iff {a b : F64} (ha : fIsNaN a = false) (hb : fIsNaN b = false) :
    (fgt a b || feq a b) = true ↔ fOrder b ≤ fOrder a := by
  simp only [fgt, feq, ha, hb, Bool.not_false, Bool.true_and, Bool.or_eq_true, decide_eq_true_eq]
  omega

/-! ### The maximum over a segment (R243) -/

/-- `r` is in the list, and nothing in the list is above it in the order of values. -/
def IsMaximum (xs : List F64) (r : F64) : Prop := r ∈ xs ∧ ∀ y ∈ xs, fOrder y ≤ fOrder r

/-- Without NaN, the fold of R243 that replaces the maximum by any greater sample ends at a maximum
of all it has seen. -/
theorem isMaximum_foldl {xs : List F64} {a : F64} (hnum : ∀ x ∈ a :: xs, fIsNaN x = false) :
    IsMaximum (a :: xs) (xs.foldl (fun m x => if fgt x m then x else m) a) := by
  induction xs generalizing a with
  | nil => simp [IsMaximum]
  | cons x xs ih =>
    obtain ⟨ha, hnumTail⟩ := List.forall_mem_cons.1 hnum
    obtain ⟨hx, hnumRest⟩ := List.forall_mem_cons.1 hnumTail
    rw [List.foldl_cons]
    by_cases hgt : fgt x a = true
    · have hlt := (fgt_eq_true_iff hx ha).1 hgt
      rw [if_pos hgt]
      obtain ⟨hmem, hmax⟩ := ih hnumTail
      have hxr := hmax x List.mem_cons_self
      exact ⟨List.mem_cons_of_mem a hmem, List.forall_mem_cons.2 ⟨by omega, hmax⟩⟩
    · have hle := (fgt_eq_false_iff hx ha).1 (Bool.eq_false_iff.2 hgt)
      rw [if_neg hgt]
      obtain ⟨hmem, hmax⟩ := ih (List.forall_mem_cons.2 ⟨ha, hnumRest⟩)
      obtain ⟨har, hrest⟩ := List.forall_mem_cons.1 hmax
      exact ⟨List.cons_subset_cons a (List.subset_cons_self x xs) hmem,
        List.forall_mem_cons.2 ⟨har, List.forall_mem_cons.2 ⟨by omega, hrest⟩⟩⟩

/-- The samples of a trace in [lo, hi). -/
def segmentSamples (xs : List F64) (lo hi : Nat) : List F64 := (xs.drop lo).take (hi - lo)

theorem mem_segmentSamples {xs : List F64} {lo hi : Nat} {x : F64} :
    x ∈ segmentSamples xs lo hi ↔ ∃ b, lo ≤ b ∧ b < hi ∧ xs[b]? = some x := by
  have hat : ∀ i, (segmentSamples xs lo hi)[i]? = some x ↔ i < hi - lo ∧ xs[lo + i]? = some x :=
    fun i => by simp [segmentSamples, List.getElem?_take]
  simp only [List.mem_iff_getElem?, hat]
  constructor
  · rintro ⟨i, hlt, hx⟩
    exact ⟨lo + i, by omega, by omega, hx⟩
  · rintro ⟨b, hlo, hhi, hx⟩
    exact ⟨b - lo, by omega, by rwa [Nat.add_sub_cancel' hlo]⟩

theorem segmentMax_isMaximum {xs : List F64} {lo hi : Nat} (hlt : lo < hi)
    (hfit : hi ≤ xs.length) (hnum : ∀ x ∈ xs, fIsNaN x = false) :
    IsMaximum (segmentSamples xs lo hi) (segmentMax xs lo hi) := by
  have hlo : lo < xs.length := by omega
  have hsamples : segmentSamples xs lo hi =
      xs.getD lo fZero :: (xs.drop (lo + 1)).take (hi - (lo + 1)) := by
    rw [segmentSamples, List.drop_eq_getElem_cons hlo, List.getD_eq_getElem _ _ hlo,
      show hi - lo = hi - (lo + 1) + 1 by omega, List.take_succ_cons]
  rw [hsamples, segmentMax]
  refine isMaximum_foldl fun x hx => hnum x ?_
  rw [← hsamples, segmentSamples] at hx
  exact List.mem_of_mem_drop (List.mem_of_mem_take hx)

/-! ### The choice among the codes (R243) -/

section Choice

variable {m : Four F64} {d j k : Fin 4}

/-- Of the codes up to `n`, code `d` has the largest value, and no later one has as large. -/
def Leads (m : Four F64) (n d : Fin 4) : Prop :=
  ∀ k ≤ n, fOrder (m.get k) ≤ fOrder (m.get d) ∧ (d < k → fOrder (m.get k) < fOrder (m.get d))

theorem leads_zero : Leads m 0 0 := fun k hk => by
  obtain rfl : k = 0 := Fin.le_zero_iff.1 hk
  exact ⟨le_rfl, fun h => absurd h (lt_irrefl 0)⟩

/-- A turn of the choice takes the next code unless its value is smaller. -/
theorem leads_betterCode (hnum : ∀ k, fIsNaN (m.get k) = false) (hk : k.val = j.val + 1)
    (hd : d ≤ j) (h : Leads m j d) :
    ∃ d' ≤ k, betterCode m (m.get d, d) k = (m.get d', d') ∧ Leads m k d' := by
  have hcases : ∀ i ≤ k, i ≤ j ∨ i = k := by omega
  by_cases hge : fOrder (m.get d) ≤ fOrder (m.get k)
  · refine ⟨k, le_rfl, if_pos ((fgt_or_feq_iff (hnum k) (hnum d)).2 hge), fun i hi => ?_⟩
    refine ⟨?_, fun hlt => absurd hi (not_le.2 hlt)⟩
    rcases hcases i hi with hij | rfl
    · exact (h i hij).1.trans hge
    · exact le_rfl
  · refine ⟨d, by omega, if_neg (mt (fgt_or_feq_iff (hnum k) (hnum d)).1 hge), fun i hi => ?_⟩
    rcases hcases i hi with hij | rfl
    · exact h i hij
    · exact ⟨(not_le.1 hge).le, fun _ => not_le.1 hge⟩

end Choice

/-- Over segment maxima without NaN the decision leads all four codes. -/
theorem leads_decideSegment {t : Four (List F64)} {lo hi : Nat}
    (hnum : ∀ k, fIsNaN (segmentMax (t.get k) lo hi) = false) :
    Leads (Four.ofFn (fun k => segmentMax (t.get k) lo hi)) 3 (decideSegment t lo hi) := by
  have hnum' : ∀ k, fIsNaN ((Four.ofFn (fun k => segmentMax (t.get k) lo hi)).get k) = false :=
    fun k => by rw [four_get_ofFn, hnum]
  obtain ⟨d1, hd1, turn1, lead1⟩ := leads_betterCode (k := 1) hnum' rfl le_rfl leads_zero
  obtain ⟨d2, hd2, turn2, lead2⟩ := leads_betterCode (k := 2) hnum' rfl hd1 lead1
  obtain ⟨d3, -, turn3, lead3⟩ := leads_betterCode (k := 3) hnum' rfl hd2 lead2
  simp only [decideSegment, List.foldl_cons, List.foldl_nil, turn1, turn2, turn3]
  exact lead3

/-- Settles O33: the sample is where the decided code's maximum stands; every sample of a code is
bounded by that code's maximum, and the decided code's maximum leads the four. -/
theorem decisionTakesTheLargestMaximum : Obligations.DecisionTakesTheLargestMaximum := by
  intro t lo hi hlt hfit hnum d
  have hmax : ∀ k, IsMaximum (segmentSamples (t.get k) lo hi) (segmentMax (t.get k) lo hi) :=
    fun k => segmentMax_isMaximum hlt (hfit k) (hnum k)
  have hnumAt : ∀ {k : Fin 4} {b : Nat} {x : F64}, (t.get k)[b]? = some x → fIsNaN x = false :=
    fun hb => hnum _ _ (List.mem_of_getElem? hb)
  have hnumMax : ∀ k, fIsNaN (segmentMax (t.get k) lo hi) = false := fun k => by
    obtain ⟨b, -, -, hb⟩ := mem_segmentSamples.1 (hmax k).1
    exact hnumAt hb
  obtain ⟨b, hlo, hhi, hb⟩ := mem_segmentSamples.1 (hmax d).1
  refine ⟨b, segmentMax (t.get d) lo hi, hlo, hhi, hb, fun k c y hlo' hhi' hy => ?_⟩
  have hyk := (hmax k).2 y (mem_segmentSamples.2 ⟨c, hlo', hhi', hy⟩)
  have hlead := leads_decideSegment hnumMax k (Fin.le_last k)
  rw [four_get_ofFn, four_get_ofFn] at hlead
  obtain ⟨hle, hlater⟩ := hlead
  exact ⟨(fgt_eq_false_iff (hnumAt hy) (hnumMax d)).2 (hyk.trans hle),
    fun hdk => (fgt_eq_true_iff (hnumMax d) (hnumAt hy)).2 (hyk.trans_lt (hlater hdk))⟩

/-! ### DECODE, by its first failing check (R241, R247) -/

section Decode

variable {s : State}

/-- The schedule DECODE cuts the current traces by (R242). -/
def decodeSchedule (s : State) : List (Nat × Nat) :=
  segments s.corr.corrLen.toNat (s.chip.nChips.toNat / 63 - 1) (62 * s.spc.toNat)
    (decodeStartEnd s).toNat

theorem symbolBits_length (k : Fin 4) : (symbolBits k).length = 2 := rfl

theorem decodeBits_eq (s : State) :
    decodeBits s = decodedBits s.corr.traces (decodeSchedule s) := by
  have hcbf : (decodeCbf s).toNat = s.chip.nChips.toNat / 63 - 1 := by
    rw [decodeCbf, countBitsFilter]
    omega
  rw [decodeBits, hcbf, intervalOf, decodeSchedule]

/-- Each segment gives two bits (R245). -/
theorem decodeBits_length (s : State) :
    (decodeBits s).length = 2 * (decodeSchedule s).length := by
  rw [decodeBits_eq, decodedBits, length_flatMap_blocks (fun _ : Nat × Nat => symbolBits_length _)]

theorem one_le_decodeCbf_iff : 1 ≤ decodeCbf s ↔ 2 ≤ s.chip.nChips.toNat / 63 := by
  rw [decodeCbf, countBitsFilter]
  omega

theorem decodeStage_of_noCorr (hcorr : s.corr.valid = false) :
    decodeStage s = .failed s (.noCorr (flagByte s)) := by
  rw [decodeStage, if_pos hcorr]

theorem decodeStage_of_cbfLt1 (hcorr : s.corr.valid = true)
    (hsymbols : s.chip.nChips.toNat / 63 < 2) :
    decodeStage s = .failed s (.cbfLt1 (decodeCbf s)) := by
  have hcbf : decodeCbf s < 1 := not_le.1 (mt one_le_decodeCbf_iff.1 (Nat.not_le.2 hsymbols))
  rw [decodeStage, if_neg (by simp [hcorr]), if_pos hcbf]

theorem decodeStage_of_startEndLe0 (hcorr : s.corr.valid = true)
    (hsymbols : 2 ≤ s.chip.nChips.toNat / 63) (hstart : decodeStartEnd s ≤ 0) :
    decodeStage s = .failed s (.startEndLe0 (decodeStartEnd s)) := by
  rw [decodeStage, if_neg (by simp [hcorr]), if_neg (not_lt.2 (one_le_decodeCbf_iff.2 hsymbols)),
    if_pos hstart]

theorem decodeStage_of_positive (hcorr : s.corr.valid = true)
    (hsymbols : 2 ≤ s.chip.nChips.toNat / 63) (hstart : 0 < decodeStartEnd s) :
    decodeStage s =
      if (decodeSchedule s).length = s.chip.nChips.toNat / 63 then
        .committed (decodeCommit s (decodeBits s) (decodeCbf s) (decodeStartEnd s))
      else .failed s (.lengthMismatch (2 * (decodeSchedule s).length)) := by
  rw [decodeStage, if_neg (by simp [hcorr]), if_neg (not_lt.2 (one_le_decodeCbf_iff.2 hsymbols)),
    if_neg (not_le.2 hstart), decodeBits_length, ite_not]
  simp only [Nat.mul_right_inj two_ne_zero]

theorem exec_decode_of_failed {e : CmdError} (h : decodeStage s = .failed s e) :
    exec .decode s = .next (failedWith e s) := by
  rw [exec_eq_complete rfl, commandResult, h, complete_failed]

theorem exec_decode_of_legal (hcorr : s.corr.valid = true)
    (hsymbols : 2 ≤ s.chip.nChips.toNat / 63) (hstart : 0 < decodeStartEnd s)
    (hlength : (decodeSchedule s).length = s.chip.nChips.toNat / 63) :
    exec .decode s = .next
      (finish (decodeCommit s (decodeBits s) (decodeCbf s) (decodeStartEnd s))) := by
  rw [exec_eq_complete rfl, commandResult, decodeStage_of_positive hcorr hsymbols hstart,
    if_pos hlength, complete_committed]

end Decode

/-- Settles O35: each clause makes its own check the first to fail. -/
theorem decodeRefusesDegenerateInput : Obligations.DecodeRefusesDegenerateInput := by
  intro s symbols cbf startEnd segs failed
  refine ⟨fun hcorr => ?noCorr, fun hcorr => ⟨fun hsymbols => ?cbfLt1, fun hsymbols =>
    ⟨fun hstart => ?startEndLe0, fun hstart hlength => ?lengthMismatch⟩⟩⟩
  case noCorr =>
    rw [exec_decode_of_failed (decodeStage_of_noCorr hcorr), failedWith, errorWord_noCorr]
    rfl
  case cbfLt1 =>
    rw [exec_decode_of_failed (decodeStage_of_cbfLt1 hcorr hsymbols), failedWith,
      errorWord_cbfLt1]
    rfl
  case startEndLe0 =>
    rw [exec_decode_of_failed (decodeStage_of_startEndLe0 hcorr hsymbols hstart), failedWith,
      errorWord_startEndLe0]
    rfl
  case lengthMismatch =>
    have hfail := (decodeStage_of_positive hcorr hsymbols hstart).trans (if_neg hlength)
    rw [exec_decode_of_failed hfail, failedWith, errorWord_lengthMismatch]
    rfl

/-! ### The bits and the score DECODE commits (R244, R246) -/

/-- Bit `j` of segment `m` is bit `j` of the code its segment decides. -/
theorem decodedBits_getElem? {t : Four (List F64)} {segs : List (Nat × Nat)} {m lo hi j : Nat}
    (hm : segs[m]? = some (lo, hi)) (hj : j < 2) :
    (decodedBits t segs)[2 * m + j]? = some ((decideSegment t lo hi).val.testBit j) := by
  have hbits : ∀ (k : Fin 4) (j : Fin 2), (symbolBits k)[j.val]? = some (k.val.testBit j) := by
    decide
  rw [decodedBits, getElem?_flatMap_blocks (fun _ : Nat × Nat => symbolBits_length _) hj, hm,
    Option.bind_some]
  exact hbits _ ⟨j, hj⟩

theorem bitErrors_eq_length_filter (s : State) (d : List Bool) :
    bitErrors s d =
      ((List.range (min d.length s.nBits.toNat)).filter
        (fun i => d.getD i false ≠ readBit s i)).length := by
  have hdiffers : ∀ i, (d.getD i false != readBit s i) = decide (d.getD i false ≠ readBit s i) :=
    fun i => Bool.eq_iff_iff.2 (by simp)
  simp only [bitErrors, List.countP_eq_length_filter, hdiffers]

/-- Settles O34: past its checks DECODE commits the bits of its schedule, two for each segment. -/
theorem decodeCommitsTheDecision : Obligations.DecodeCommitsTheDecision := by
  intro s symbols cbf startEnd segs hcorr hsymbols hstart hlength
  have hbits : (decodeBits s).length = 2 * symbols :=
    (decodeBits_length s).trans (congrArg (2 * ·) hlength)
  refine ⟨decodeBits s, ?commit, hbits, fun m lo hi hm => ?decisions, ?score⟩
  case commit =>
    rw [exec_decode_of_legal hcorr hsymbols hstart hlength, finish, decodeCommit, hbits]
    rfl
  case decisions =>
    rw [decodeBits_eq]
    exact ⟨decodedBits_getElem? hm Nat.two_pos, decodedBits_getElem? hm Nat.one_lt_two⟩
  case score => rw [bitErrors_eq_length_filter, hbits]

/-! ### A coherent state's schedule (R241, R245) -/

section Coherent

variable {s : State}

/-- Traces imply a signal and chips: the rate was legal, and N_CHIPS counts the symbols' chips. -/
theorem nChips_of_coherent (h : Coherent s) (hcorr : s.corr.valid = true)
    (hchips : 63 * (s.nBits.toNat / 2) < 2 ^ 32) :
    s.chip.nChips.toNat = 63 * (s.nBits.toNat / 2) := by
  obtain ⟨-, -, -, hcount⟩ := h.current.chip (h.chain.sig (h.chain.corr hcorr))
  rw [hcount, BitVec.toNat_ofNat, Nat.mod_eq_of_lt hchips]

theorem two_le_spc_of_coherent (h : Coherent s) (hcorr : s.corr.valid = true) :
    2 ≤ s.spc.toNat := by
  obtain ⟨hconfig, -⟩ := h.current.sig (h.chain.corr hcorr)
  exact (signalConfigError_none hconfig).2.1

/-- CORR_LEN is what R221 says of the samples of R183: neither count outgrows its 32 bits. -/
theorem corrLen_of_coherent (h : Coherent s) (hcorr : s.corr.valid = true) :
    s.corr.corrLen.toNat =
      sampleCount s.spc.toNat s.chip.nChips.toNat + 1 - 62 * s.spc.toNat := by
  obtain ⟨hconfig, -, -, -, hsamples⟩ := h.current.sig (h.chain.corr hcorr)
  obtain ⟨-, hspc, -, -, hmax⟩ := signalConfigError_none hconfig
  obtain ⟨-, -, -, -, hlen⟩ := h.current.corr hcorr
  have hword := s.maxSamples.isLt
  rw [hlen, hsamples, BitVec.toNat_ofNat, BitVec.toNat_ofNat, traceLen, referenceLen,
    Config.refPairs, Nat.mod_eq_of_lt (b := 2 ^ 32) (by omega), Nat.mod_eq_of_lt (by omega)]

end Coherent

/-- Settles O36: the trace of a coherent state is that of its symbols, whose schedule has a positive
startEnd and one segment for each symbol (`oneSegmentPerSymbol`). -/
theorem decodeNeverDegenerate : Obligations.DecodeNeverDegenerate := by
  intro s hs hcorr hbits hchips
  have hsymbols : s.chip.nChips.toNat / 63 = s.nBits.toNat / 2 := by
    rw [nChips_of_coherent hs hcorr hchips, Nat.mul_div_cancel_left _ (by decide)]
  have hn : 2 ≤ s.nBits.toNat / 2 := by omega
  have hlen := corrLen_of_coherent hs hcorr
  rw [nChips_of_coherent hs hcorr hchips, sampleCount] at hlen
  obtain ⟨hstart, hcount⟩ := oneSegmentPerSymbol _ _ hn (two_le_spc_of_coherent hs hcorr)
  rw [← hlen, ← hsymbols] at hstart hcount
  have hlength : (decodeSchedule s).length = s.chip.nChips.toNat / 63 := hcount
  refine ⟨_, exec_decode_of_legal hcorr (hsymbols ▸ hn) hstart hlength, rfl, rfl, ?_⟩
  show (decodeBits s).length = _
  rw [decodeBits_length, hlength, hsymbols]

end Sys2Proof.Proofs

/-!
PROOFS. Steps and the host's writes as the engine sees them: which step runs the pending command
(R272, R317), what a write does while a command is in flight (R281), the two writes of the handshake,
CMD and STATUS (R270, R271, R279), and the handshake that every step keeps (R27, R303, R306).
-/

namespace Sys2Proof.Proofs

open Sys2Proof Sys2Proof.Machine

/-! ### The step of the engine (R272, R317) -/

/-- The completion of a legal pending word is its command's meaning. -/
theorem runPending_of_instr {s : State} {w : Word} {i : Instr} (hpending : s.pending = some w)
    (hdecode : decodeCommand w = .instr i) : runPending s = exec i s := by
  simp only [runPending, hpending, runCommand, hdecode]

/-- Settles O5: with no event left and with a completion next, the step completes what is pending. -/
theorem stepRunsThePendingCommand : Obligations.StepRunsThePendingCommand := by
  intro s w i hpending hdecode
  refine ⟨fun hevents => ?_, fun rest hevents => ?_⟩
  · simp only [step, hevents, runPending_of_instr hpending hdecode]
  · simp only [step, hevents, runEvent]
    exact runPending_of_instr (s := { s with events := rest }) hpending hdecode

/-- Settles O8: an idle block has nothing to complete. -/
theorem idleBlockHoldsItsState : Obligations.IdleBlockHoldsItsState :=
  fun _ hpending hevents => step_of_idle hevents hpending

theorem runPending_next (s : State) : ∃ t, runPending s = .next t := by
  unfold runPending
  cases s.pending with
  | none => exact ⟨_, rfl⟩
  | some w =>
    simp only [runCommand]
    cases decodeCommand w with
    | instr i => exact exec_next i s
    | illegal why => exact ⟨_, rfl⟩

theorem runEvent_next (e : Event) (s : State) : ∃ t, runEvent e s = .next t := by
  cases e with
  | transaction w => exact exec_next _ s
  | completion => exact runPending_next s
  | hardReset noise => exact ⟨_, rfl⟩

/-- Settles O9: whatever is next, an event or the pending completion, has a next state. -/
theorem noStepStops : Obligations.NoStepStops := by
  intro s
  unfold StepGoesOn step
  cases s.events with
  | nil => exact runPending_next s
  | cons e rest => exact runEvent_next e _

/-- Settles O37: word 0 is the first legal one, and NOP's completion commits the state as it is. -/
theorem nopOnlyCompletes : Obligations.NopOnlyCompletes := by
  obtain ⟨⟨hnop, -⟩, -⟩ := commandDecodingIsTotal
  exact ⟨hnop, fun s => exec_eq_complete rfl s⟩

/-! ### Writes while a command is in flight (R281) -/

/-- Every multiple of 4 below 0xD4 outside the gaps of the map is a register's offset (R23, R47). -/
theorem exists_regOffset {offset : BitVec 12} (haligned : offset.toNat % 4 = 0)
    (hbelow : offset.toNat < 0xD4)
    (hgap : offset.toNat ∉ [0x03C, 0x07C, 0x09C, 0x0A8, 0x0AC, 0x0B0, 0x0B4, 0x0B8, 0x0BC]) :
    ∃ r, offset = regOffset r := by
  have hmapped : ∀ m < 53,
      4 * m ∉ [0x03C, 0x07C, 0x09C, 0x0A8, 0x0AC, 0x0B0, 0x0B4, 0x0B8, 0x0BC] →
      (regAt (4 * m)).isSome = true := by decide
  have hword : 4 * (offset.toNat / 4) = offset.toNat := by omega
  have hsome := hmapped (offset.toNat / 4) (by omega)
  rw [hword] at hsome
  obtain ⟨r, hr⟩ := Option.isSome_iff_exists.1 (hsome hgap)
  exact ⟨r, BitVec.eq_of_toNat_eq (eq_regOffset_of_regAt hr)⟩

/-- A full write to a register while a command is in flight is dropped, but for a soft reset. -/
theorem exec_wr_dropped {s : State} (hbusy : s.pending ≠ none) {r : Reg} {d : Word}
    (hreset : ¬ (r = .ctrl ∧ d.getLsbD 0 = true)) :
    exec (.wr 0xF#4 (regOffset r) d) s = .next (setWerr s) := by
  have hinFlight : busy s = true := Option.isSome_iff_ne_none.2 hbusy
  rw [exec_wr, hostWrite, target_regOffset]
  simp only [acceptedWrite, if_pos hinFlight, if_neg hreset]

/-- Settles O47: a mapped, aligned offset is a register's, and only CTRL's is 0x008. -/
theorem writesWhileBusyAreDropped : Obligations.WritesWhileBusyAreDropped := by
  intro s d offset hbusy haligned hbelow hgap hreset
  obtain ⟨r, rfl⟩ := exists_regOffset haligned hbelow hgap
  refine exec_wr_dropped hbusy fun ⟨hr, hd⟩ => hreset ⟨?_, hd⟩
  rw [hr]
  rfl

/-! ### CMD and STATUS (R270, R271, R279) -/

/-- Settles O48: an idle block without an error accepts; an error refuses an idle block's write, and
a command in flight drops it. -/
theorem commandWritesAreAcceptedOrDropped : Obligations.CommandWritesAreAcceptedOrDropped := by
  intro s w
  have hwrite (hidle : s.pending = none) :
      exec (.wr 0xF#4 0x00C#12 w) s = .next (writeCmd w s) := exec_wr_register hidle .cmd w
  refine ⟨fun hidle herr => ?accepted, fun hrefused => ?dropped⟩
  case accepted =>
    have haccepts : accepts s = true := by simp [accepts, busy, hidle, herr]
    rw [hwrite hidle, writeCmd, if_pos haccepts]
    rfl
  case dropped =>
    by_cases hidle : s.pending = none
    · have herr : s.status.err = true := hrefused.resolve_left (not_not.2 hidle)
      have haccepts : ¬ accepts s = true := by simp [accepts, herr]
      rw [hwrite hidle, writeCmd, if_neg haccepts]
      rfl
    · exact exec_wr_dropped (r := .cmd) hidle nofun

/-- Settles O49: the write of an idle block is STATUS's own, in closed form. -/
theorem statusWritesClearByOnes : Obligations.StatusWritesClearByOnes := by
  intro s d hidle
  rw [← clearStatus_eq]
  exact exec_wr_register hidle .status d

/-! ### The handshake (R27, R270, R271, R303, R306) -/

theorem errorClass_ne_zero (e : CmdError) : errorClass e ≠ 0#8 := by
  unfold errorClass
  split <;> decide

/-- CLASS is the low byte of the word ERR_CODE takes (R27). -/
theorem errorWord_class (e : CmdError) : (errorWord e).extractLsb' 0 8 = errorClass e :=
  BitVec.extractLsb'_append_eq_right

/-- The handshake reads only ERR and DONE, the error's two registers and the pending word. -/
theorem handshake_of_eq {s t : State} (h : Handshake s) (herr : t.status.err = s.status.err)
    (hdone : t.status.done = s.status.done) (hcode : t.errCode = s.errCode)
    (hinfo : t.errInfo = s.errInfo) (hpending : t.pending = s.pending) : Handshake t :=
  ⟨by rw [herr, hcode, hinfo]; exact h.cleared, by rw [herr, hcode]; exact h.recorded,
    by rw [herr, hdone, hpending]; exact h.flight⟩

/-- A completion ends the flight; a failed one records an error that has a class. -/
theorem handshake_complete (r : Result) (h : Handshake r.state) : Handshake (complete r) := by
  cases r with
  | committed s => exact ⟨h.cleared, h.recorded, nofun⟩
  | failed s e =>
    refine ⟨nofun, fun _ => ?_, nofun⟩
    rw [complete_failed, failedWith, errorWord_class]
    exact errorClass_ne_zero e

theorem handshake_writeCmd {s : State} (h : Handshake s) (w : Word) : Handshake (writeCmd w s) := by
  unfold writeCmd
  split
  case isTrue haccepts =>
    obtain ⟨-, herr⟩ : busy s = false ∧ s.status.err = false := by simpa [accepts] using haccepts
    exact ⟨h.cleared, h.recorded, fun _ => ⟨herr, rfl⟩⟩
  case isFalse => exact handshake_of_eq h rfl rfl rfl rfl rfl

/-- A STATUS write clears the error with its two registers or leaves all three. -/
theorem handshake_clearStatus {s : State} (h : Handshake s) (d : Word) :
    Handshake (clearStatus d s) := by
  rw [clearStatus_eq]
  obtain ⟨hcleared, hrecorded, hflight⟩ := h
  cases hd : d.getLsbD 2 with
  | false =>
    refine ⟨by simpa using hcleared, by simpa using hrecorded, fun hpending => ?_⟩
    obtain ⟨herr, hdone⟩ := hflight hpending
    simp [herr, hdone]
  | true =>
    refine ⟨fun _ => ⟨rfl, rfl⟩, by simp, fun hpending => ?_⟩
    obtain ⟨-, hdone⟩ := hflight hpending
    simp [hdone]

theorem handshake_writePort {s : State} (h : Handshake s) (hi : Bool) (d : Word) :
    Handshake (writePort hi d s) := by
  rcases writePort_cases hi d s with hw | hw | ⟨u, rfl | ⟨-, rfl⟩, hw⟩ | ⟨-, v, hw⟩ <;>
    exact hw ▸ handshake_of_eq h rfl rfl rfl rfl rfl

theorem handshake_resetWith (n : Nat) (s : State) : Handshake (resetWith n s) :=
  ⟨fun _ => ⟨rfl, rfl⟩, nofun, nofun⟩

theorem handshake_writeReg (r : Reg) (d : Word) {s : State} (h : Handshake s) :
    Handshake (writeReg r d s) := by
  cases r with
  | ctrl =>
    show Handshake (writeCtrl d s)
    unfold writeCtrl
    split
    · exact handshake_resetWith _ s
    · exact handshake_of_eq h rfl rfl rfl rfl rfl
  | cmd => exact handshake_writeCmd h d
  | status => exact handshake_clearStatus h d
  | bufDataLo => exact handshake_writePort h false d
  | bufDataHi => exact handshake_writePort h true d
  | _ => exact handshake_of_eq h rfl rfl rfl rfl rfl

theorem handshake_invariant : StepInvariant Handshake where
  stages := stageInvariant_of_stageKeeps fun _ _ hkeeps h =>
    handshake_of_eq h (congrArg _ hkeeps.status) (congrArg _ hkeeps.status) hkeeps.errCode
      hkeeps.errInfo hkeeps.pending
  complete := handshake_complete
  readData _ _ h := handshake_of_eq h rfl rfl rfl rfl rfl
  werr _ h := handshake_of_eq h rfl rfl rfl rfl rfl
  aerr _ h := handshake_of_eq h rfl rfl rfl rfl rfl
  reg r d _ h := handshake_writeReg r d h
  reset n s _ := handshake_resetWith n s
  events _ _ h := handshake_of_eq h rfl rfl rfl rfl rfl

/-- Settles O58: only a completion records an error, only a CMD write of a block without one starts a
flight, and clearing ERR clears its two registers. -/
theorem stepKeepsHandshake : Obligations.StepKeepsHandshake :=
  fun _ _ => step_sat handshake_invariant

end Sys2Proof.Proofs


/-!
PROOFS. Where commands fail: a command other than ADD_NOISE and RUN_PIPELINE fails at the state it
started from (R304), and RUN_PIPELINE fails at the first failing row of its prechecks (R276).
-/

namespace Sys2Proof.Proofs

open Sys2Proof Sys2Proof.Machine

/-! ### Precise errors (R304) -/

/-- The result committed something, or failed at the state `s` itself. -/
def CommitsOrFailsAt (s : State) (r : Result) : Prop :=
  (∃ u, r = .committed u) ∨ ∃ e, r = .failed s e

theorem commitsOrFailsAt_commandResult {i : Instr} (hnoise : i ≠ .addNoise)
    (hpipeline : i ≠ .runPipeline) (s : State) : CommitsOrFailsAt s (commandResult i s) := by
  cases i with
  | addNoise => exact absurd rfl hnoise
  | runPipeline => exact absurd rfl hpipeline
  | buildGold => exact (buildGold_cases s).imp_left fun ⟨_, _, _, h⟩ => ⟨_, h⟩
  | spread => exact (spread_cases s).imp_left fun ⟨_, _, _, h⟩ => ⟨_, h⟩
  | synth => exact (synth_cases s).imp_left fun ⟨_, _, h⟩ => ⟨_, h⟩
  | correlate => exact (correlate_cases s).imp_left fun ⟨_, _, h⟩ => ⟨_, h⟩
  | decode => exact (decodeStage_cases s).imp_left fun ⟨_, _, _, _, h⟩ => ⟨_, h⟩
  | _ => exact .inl ⟨_, rfl⟩

/-- Settles O53: a result that committed leaves ERR as it was, so ERR tells that the command failed,
and it failed at its first state. -/
theorem errorsArePrecise : Obligations.ErrorsArePrecise := by
  intro i s t hi hnoise hpipeline hclear hexec herr
  rw [exec_eq_complete hi] at hexec
  obtain rfl : complete (commandResult i s) = t := by injection hexec
  rcases commitsOrFailsAt_commandResult hnoise hpipeline s with ⟨u, hu⟩ | ⟨e, he⟩
  · have hstatus : u.status = s.status := by
      simpa only [hu, Result.state] using (stageKeeps_commandResult i s).status
    have hkept : (finish u).status.err = false := (congrArg StatusBits.err hstatus).trans hclear
    rw [hu, complete_committed, hkept] at herr
    cases herr
  · rw [he, complete_failed]
    rfl

/-! ### The prechecks as one list (R276) -/

theorem firstFailing_append (l l' : List (Bool × CmdError)) :
    firstFailing (l ++ l') = (firstFailing l).or (firstFailing l') := by
  simp only [firstFailing, List.find?_append, Option.map_or]

theorem firstFailing_eq_none_iff {l : List (Bool × CmdError)} :
    firstFailing l = none ↔ ∀ c ∈ l, c.1 = false := by
  simp only [firstFailing, Option.map_eq_none_iff, List.find?_eq_none, Bool.not_eq_true]

/-- A search for the first bad element is a list of checks, one for each element. -/
theorem firstFailing_map {α : Type} (l : List α) (p : α → Bool) (f : α → CmdError) :
    firstFailing (l.map fun a => (p a, f a)) = (l.find? p).map f := by
  simp only [firstFailing, List.find?_map, Option.map_map]
  rfl

/-- Rows 1 to 6 of R276. -/
def rateAndBitsChecks (s : State) : List (Bool × CmdError) :=
  [(s.bps == 0#32, .bpsZero),
   (decide (s.spc.toNat < 2), .spcTooSmall s.spc),
   (!finite s.f0, .f0NonFinite s.f0),
   (!finite s.phi0, .phi0NonFinite s.phi0),
   (s.nBits == 0#32, .emptyBits),
   (decide (s.maxBits.toNat < s.nBits.toNat), .nBitsRange s.nBits)]

/-- Row 7 of R276, for each shift. -/
def shiftRangeChecks (s : State) : List (Bool × CmdError) :=
  symbols.map fun k => (decide (63 ≤ shiftNat s k), .shiftRange k (shiftField s k))

/-- Row 8 of R276, for each pair of shifts. -/
def shiftDupChecks (s : State) : List (Bool × CmdError) :=
  symbolPairs.map fun p => (decide (shiftNat s p.1 = shiftNat s p.2), .shiftDup p.1 p.2)

/-- Rows 9 to 12 of R276. -/
def sizeChecks (s : State) : List (Bool × CmdError) :=
  [(decide (s.maxSamples.toNat < plannedSamples s), .samplesRange 0x04#8 (plannedSamples s)),
   (decide (s.maxSamples.toNat < referenceLen s), .samplesRange 0x06#8 (referenceLen s)),
   (decide (plannedCbf s < 1), .cbfLt1 (plannedCbf s)),
   (decide (plannedStartEnd s ≤ 0), .startEndLe0 (plannedStartEnd s))]

/-- The table of R276, in its order. -/
def prechecks (s : State) : List (Bool × CmdError) :=
  rateAndBitsChecks s ++ shiftRangeChecks s ++ shiftDupChecks s ++ sizeChecks s

section Checks

variable (s : State)

theorem rateAndBitsError_eq_firstFailing :
    rateAndBitsError s = firstFailing (rateAndBitsChecks s) := by
  simp only [rateAndBitsError, rateAndBitsChecks, firstFailing_cons, firstFailing_nil, beq_iff_eq,
    decide_eq_true_eq, Bool.not_eq_true', gt_iff_lt]

theorem shiftRangeError_eq_firstFailing :
    shiftRangeError s = firstFailing (shiftRangeChecks s) := by
  simp only [shiftRangeError, shiftRangeChecks, firstFailing_map, toNat_shiftField]

theorem shiftDupError_eq_firstFailing : shiftDupError s = firstFailing (shiftDupChecks s) := by
  simp only [shiftDupError, shiftDupChecks, firstFailing_map, beq_eq_decide, shiftField_inj]

theorem sizeError_eq_firstFailing : sizeError s = firstFailing (sizeChecks s) := by
  simp only [sizeError, sizeChecks, firstFailing_cons, firstFailing_nil, decide_eq_true_eq,
    gt_iff_lt]

/-- The prechecks go through the four groups of rows in order. -/
theorem precheckError_eq_or :
    precheckError s =
      (((rateAndBitsError s).or (shiftRangeError s)).or (shiftDupError s)).or (sizeError s) := by
  unfold precheckError
  cases rateAndBitsError s with
  | some e => rfl
  | none =>
    cases shiftRangeError s with
    | some e => rfl
    | none => cases shiftDupError s <;> rfl

theorem precheckError_eq_firstFailing : precheckError s = firstFailing (prechecks s) := by
  rw [precheckError_eq_or, prechecks, firstFailing_append, firstFailing_append,
    firstFailing_append, rateAndBitsError_eq_firstFailing, shiftRangeError_eq_firstFailing,
    shiftDupError_eq_firstFailing, sizeError_eq_firstFailing]

/-- Rows 1 to 6 with the codes and infos of R302. -/
theorem map_checkRow_rateAndBitsChecks :
    (rateAndBitsChecks s).map checkRow =
      [(s.bps == 0#32, 0x010401#24, 0#32), (decide (s.spc.toNat < 2), 0x020401#24, s.spc),
       (!finite s.f0, 0x090401#24, s.f0.extractLsb' 32 32),
       (!finite s.phi0, 0x0A0401#24, s.phi0.extractLsb' 32 32),
       (s.nBits == 0#32, 0x030301#24, 0#32),
       (decide (s.maxBits.toNat < s.nBits.toNat), 0x040301#24, s.nBits)] := by
  simp only [rateAndBitsChecks, List.map_cons, List.map_nil, checkRow, errorWord_bpsZero,
    errorWord_spcTooSmall, errorWord_f0NonFinite, errorWord_phi0NonFinite, errorWord_emptyBits,
    errorWord_nBitsRange, errorInfo]

theorem map_checkRow_shiftRangeChecks :
    (shiftRangeChecks s).map checkRow =
      symbols.map fun k => (decide (63 ≤ shiftNat s k), 0x050201#24,
        BitVec.ofNat 32 (k.val * 256 + shiftNat s k)) := by
  simp only [shiftRangeChecks, List.map_map, Function.comp_def, checkRow, errorWord_shiftRange,
    errorInfo_shiftRange]

theorem map_checkRow_shiftDupChecks :
    (shiftDupChecks s).map checkRow =
      symbolPairs.map fun p => (decide (shiftNat s p.1 = shiftNat s p.2), 0x060201#24,
        BitVec.ofNat 32 (p.1.val * 256 + p.2.val)) := by
  simp only [shiftDupChecks, List.map_map, Function.comp_def, checkRow, errorWord_shiftDup,
    errorInfo_shiftDup]

/-- Rows 9 to 12 with the codes and infos of R302. -/
theorem map_checkRow_sizeChecks :
    (sizeChecks s).map checkRow =
      [(decide (s.maxSamples.toNat < plannedSamples s), 0x080401#24,
         saturate32 (plannedSamples s)),
       (decide (s.maxSamples.toNat < referenceLen s), 0x080601#24, saturate32 (referenceLen s)),
       (decide (plannedCbf s < 1), 0x010702#24, BitVec.ofInt 32 (plannedCbf s)),
       (decide (plannedStartEnd s ≤ 0), 0x020702#24, BitVec.ofInt 32 (plannedStartEnd s))] := by
  simp only [sizeChecks, List.map_cons, List.map_nil, checkRow, errorWord_samplesRange_synth,
    errorWord_samplesRange_correlate, errorWord_cbfLt1, errorWord_startEndLe0, errorInfo]

end Checks

theorem exec_runPipeline_of_precheck {s : State} {e : CmdError} (h : precheckError s = some e) :
    exec .runPipeline s = .next (failedWith e s) := by
  rw [exec_eq_complete rfl, commandResult, runPipeline, h, complete_failed]

/-- Settles O38: the statement's rows are those of the prechecks, so its first row that holds is the
precheck that fails. -/
theorem prechecksFailFirst : Obligations.PrechecksFailFirst := by
  intro s n spc samples refLen l cbf startEnd shift range dup rows row hrow
  have hrows : rows = (prechecks s).map checkRow := by
    rw [prechecks, List.map_append, List.map_append, List.map_append,
      map_checkRow_rateAndBitsChecks, map_checkRow_shiftRangeChecks, map_checkRow_shiftDupChecks,
      map_checkRow_sizeChecks]
    rfl
  obtain ⟨e, hfirst, hcode⟩ := find?_map_checkRow (hrows ▸ hrow)
  have hfail : precheckError s = some e := (precheckError_eq_firstFailing s).trans hfirst
  rw [exec_runPipeline_of_precheck hfail, hcode, failedWith]

end Sys2Proof.Proofs


/-!
PROOFS. RUN_PIPELINE past its prechecks (R275, R276): what the prechecks promise, the signal that
BUILD_GOLD, SPREAD and SYNTH then leave, the noise step's two outcomes, and the back end, which
always completes.
-/

namespace Sys2Proof.Proofs

open Sys2Proof Sys2Proof.Machine

/-! ### What the prechecks promise (R276) -/

/-- The configuration meets rows 1 to 11 of R276; row 12 follows
(`PipelineLegal.plannedStartEnd_pos`). -/
structure PipelineLegal (s : State) : Prop where
  bps : s.bps ≠ 0#32
  spc : 2 ≤ s.spc.toNat
  f0 : finite s.f0 = true
  phi0 : finite s.phi0 = true
  bits : 4 ≤ s.nBits.toNat
  bitsFit : s.nBits.toNat ≤ s.maxBits.toNat
  shiftRange : shiftRangeError s = none
  shiftDup : shiftDupError s = none
  samplesFit : plannedSamples s ≤ s.maxSamples.toNat
  referenceFits : referenceLen s ≤ s.maxSamples.toNat

section Legal

variable {s : State}

theorem PipelineLegal.nBits_ne_zero (h : PipelineLegal s) : s.nBits ≠ 0#32 := fun hzero => by
  have hbits := h.bits
  simp [hzero] at hbits

/-- The trace of two symbols or more is long enough at either end. -/
theorem PipelineLegal.plannedStartEnd_pos (h : PipelineLegal s) : 0 < plannedStartEnd s := by
  have hn : 2 ≤ s.nBits.toNat / 2 := by have := h.bits; omega
  obtain ⟨hpos, -⟩ := oneSegmentPerSymbol _ _ hn h.spc
  have hcbf : ((s.nBits.toNat / 2 : Nat) : Int) - 2 = ((s.nBits.toNat / 2 : Nat) : Int) - 1 - 1 := by
    ring
  rw [plannedStartEnd, hcbf]
  exact hpos

theorem one_le_plannedCbf_iff : 1 ≤ plannedCbf s ↔ 4 ≤ s.nBits.toNat := by
  rw [plannedCbf]
  omega

/-- The chips planned are fewer than the samples, so N_CHIPS does not outgrow its 32 bits. -/
theorem PipelineLegal.plannedChips_lt (h : PipelineLegal s) : plannedChips s < 2 ^ 32 := by
  have hsamples : 4 * (plannedChips s / 2) ≤ plannedSamples s :=
    Nat.mul_le_mul_right _ (Nat.mul_le_mul_left 2 h.spc)
  have hfit := h.samplesFit
  have hword := s.maxSamples.isLt
  omega

theorem rateAndBitsError_eq_none_iff :
    rateAndBitsError s = none ↔
      s.bps ≠ 0#32 ∧ 2 ≤ s.spc.toNat ∧ finite s.f0 = true ∧ finite s.phi0 = true ∧
        s.nBits ≠ 0#32 ∧ s.nBits.toNat ≤ s.maxBits.toNat := by
  rw [rateAndBitsError_eq_firstFailing, firstFailing_eq_none_iff]
  simp only [rateAndBitsChecks, List.forall_mem_cons, List.not_mem_nil, false_imp_iff,
    implies_true, and_true, beq_eq_false_iff_ne, decide_eq_false_iff_not, Bool.not_eq_false',
    Nat.not_lt]

theorem sizeError_eq_none_iff :
    sizeError s = none ↔
      plannedSamples s ≤ s.maxSamples.toNat ∧ referenceLen s ≤ s.maxSamples.toNat ∧
        1 ≤ plannedCbf s ∧ 0 < plannedStartEnd s := by
  rw [sizeError_eq_firstFailing, firstFailing_eq_none_iff]
  simp [sizeChecks]

theorem precheckError_eq_none_iff : precheckError s = none ↔ PipelineLegal s := by
  rw [precheckError_eq_or, Option.or_eq_none_iff, Option.or_eq_none_iff, Option.or_eq_none_iff,
    rateAndBitsError_eq_none_iff, sizeError_eq_none_iff, one_le_plannedCbf_iff]
  constructor
  · rintro ⟨⟨⟨⟨hbps, hspc, hf0, hphi0, -, hfit⟩, hrange⟩, hdup⟩, hsamples, href, hbits, -⟩
    exact ⟨hbps, hspc, hf0, hphi0, hbits, hfit, hrange, hdup, hsamples, href⟩
  · intro h
    exact ⟨⟨⟨⟨h.bps, h.spc, h.f0, h.phi0, h.nBits_ne_zero, h.bitsFit⟩, h.shiftRange⟩,
      h.shiftDup⟩, h.samplesFit, h.referenceFits, h.bits, h.plannedStartEnd_pos⟩

end Legal

/-! ### The front end: BUILD_GOLD, SPREAD, SYNTH (R275) -/

/-- The state after BUILD_GOLD, SPREAD and SYNTH. -/
def frontEnd (s : State) : State := synthCommit (spreadCommit (goldCommit s))

theorem goldCommit_keeps (s : State) : StageKeeps s (goldCommit s) :=
  ⟨.of_fields rfl, rfl, rfl, rfl, rfl⟩

theorem spreadCommit_keeps (s : State) : StageKeeps s (spreadCommit s) :=
  ⟨.of_fields rfl, rfl, rfl, rfl, rfl⟩

theorem synthCommit_keeps (s : State) : StageKeeps s (synthCommit s) :=
  ⟨.of_fields rfl, rfl, rfl, rfl, rfl⟩

theorem stageKeeps_frontEnd (s : State) : StageKeeps s (frontEnd s) :=
  ((goldCommit_keeps s).trans (spreadCommit_keeps _)).trans (synthCommit_keeps _)

@[simp] theorem frontEnd_sig_valid (s : State) : (frontEnd s).sig.valid = true := by
  rw [frontEnd, synthCommit_sig]

@[simp] theorem frontEnd_noisy (s : State) : (frontEnd s).noisy = NoiseBank.empty := by
  rw [frontEnd, synthCommit_noisy]

@[simp] theorem frontEnd_noiseState (s : State) : (frontEnd s).noiseState = s.noiseState := by
  rw [frontEnd, synthCommit_noiseState, spreadCommit_noiseState, goldCommit_noiseState]

/-- The flags up to SIG_V are set and those behind it clear. -/
theorem flagByte_frontEnd (s : State) : flagByte (frontEnd s) = 0x1F#8 := by
  simp only [flagByte, frontEnd, synthCommit_msa, synthCommit_msb, synthCommit_gold,
    synthCommit_chip, synthCommit_sig, synthCommit_noisy, synthCommit_corr, synthCommit_dec,
    spreadCommit_msa, spreadCommit_msb, spreadCommit_gold, spreadCommit_chip, goldCommit_msa,
    goldCommit_msb, goldCommit_gold]
  rfl

section FrontEnd

variable {s : State}

/-- BUILD_GOLD's commit is coherent whatever the flags were before: it sets or clears each of them. -/
theorem coherent_goldCommit (hrange : shiftRangeError s = none) (hdup : shiftDupError s = none)
    (hcodes : goldDupError (goldTable s) = none) : Coherent (goldCommit s) :=
  { chain := ⟨fun _ => ⟨rfl, rfl⟩, clear_flag, clear_flag, clear_flag, clear_flag, clear_flag⟩
    noStale := ⟨nofun, nofun, nofun, fun _ => rfl, fun _ => rfl, fun _ => rfl, fun _ => rfl,
      fun _ => rfl⟩
    current := ⟨fun _ => rfl, fun _ => rfl, fun _ => ⟨hrange, hdup, hcodes, rfl⟩, clear_flag,
      clear_flag, fun _ => rfl, clear_flag, clear_flag, clear_flag⟩ }

theorem spread_goldCommit (h : PipelineLegal s) :
    spread (goldCommit s) = .committed (spreadCommit (goldCommit s)) :=
  spread_of_legal rfl h.nBits_ne_zero h.bitsFit

/-- N_CHIPS after SPREAD is the count the prechecks planned. -/
theorem nChips_spreadCommit_goldCommit (h : PipelineLegal s) :
    (spreadCommit (goldCommit s)).chip.nChips.toNat = plannedChips s :=
  (BitVec.toNat_ofNat ..).trans (Nat.mod_eq_of_lt h.plannedChips_lt)

/-- The checks of R184 pass for the chips planned, wherever the host's registers are those of `s`. -/
theorem PipelineLegal.signalConfigError_eq_none {u : State} (h : PipelineLegal s)
    (hu : HostSideKept s u) : signalConfigError u (plannedChips s) = none := by
  refine Proofs.signalConfigError_eq_none (hu.bps ▸ h.bps) (hu.spc ▸ h.spc) (hu.f0 ▸ h.f0)
    (hu.phi0 ▸ h.phi0) ?_
  rw [hu.spc, hu.maxSamples]
  exact h.samplesFit

theorem synth_spreadCommit_goldCommit (h : PipelineLegal s) :
    synth (spreadCommit (goldCommit s)) = .committed (frontEnd s) := by
  refine synth_of_legal rfl ?_
  rw [nChips_spreadCommit_goldCommit h]
  exact h.signalConfigError_eq_none ((goldCommit_keeps s).trans (spreadCommit_keeps _)).host

theorem coherent_frontEnd (h : PipelineLegal s) (hcodes : goldDupError (goldTable s) = none) :
    Coherent (frontEnd s) := by
  have hspread := spread_coherent (coherent_goldCommit h.shiftRange h.shiftDup hcodes)
  rw [spread_goldCommit h] at hspread
  have hsynth := synth_coherent hspread
  rwa [Result.state, synth_spreadCommit_goldCommit h] at hsynth

/-- With legal parameters and distinct codes the pipeline comes to its noise step. -/
theorem runPipeline_of_distinct (h : PipelineLegal s)
    (hcodes : goldDupError (goldTable s) = none) :
    runPipeline s = ((pipelineNoise (frontEnd s)).andThen correlate).andThen decodeStage := by
  have hgold : buildGold s = .committed (goldCommit s) := by
    rw [buildGold, h.shiftRange, h.shiftDup, hcodes]
  rw [runPipeline, precheckError_eq_none_iff.2 h, hgold]
  simp only [andThen_committed, spread_goldCommit h, synth_spreadCommit_goldCommit h]

theorem runPipeline_of_goldDup {e : CmdError} (h : PipelineLegal s)
    (he : goldDupError (goldTable s) = some e) : runPipeline s = .failed s e := by
  rw [runPipeline, precheckError_eq_none_iff.2 h,
    buildGold_of_goldDup h.shiftRange h.shiftDup he]
  rfl

/-- An error of the code check names a pair of symbols in table order. -/
theorem goldDupError_pair {table : Four (List Bool)} {e : CmdError}
    (he : goldDupError table = some e) : ∃ j k : Fin 4, j < k ∧ e = .goldNotDistinct j k := by
  obtain ⟨⟨j, k⟩, hfind, rfl⟩ := Option.map_eq_some_iff.1 he
  exact ⟨j, k, mem_symbolPairs.1 (List.mem_of_find?_eq_some hfind), rfl⟩

end FrontEnd

/-! ### The noise step (R205, R275) -/

/-- A NUMERIC_ERROR of ADD_NOISE: class 3 and stage 5 of R302. -/
def IsNoiseError (e : CmdError) : Prop := (errorWord e).extractLsb' 0 16 = 0x0503#16

/-- With a signal there, the noise stage fails only with a NUMERIC_ERROR. -/
theorem isNoiseError_of_injectNoise {g : List F64} {s t : State} {e : CmdError}
    (h : injectNoise g s = .failed t e) : IsNoiseError e := by
  unfold injectNoise at h
  simp only at h
  unfold IsNoiseError
  split at h
  · cases h
    rw [errorWord_noiseNonFinite]
    rfl
  · split at h
    · cases h
      rw [errorWord_noiseEnergyZero]
      rfl
    · split at h
      · cases h
        rw [errorWord_normNonFinite]
        rfl
      · split at h
        · cases h
          rw [errorWord_rxNonFinite]
          rfl
        · cases h

/-- What the back end of the pipeline of `s` starts from: a signal, with noise where `s` asks for it. -/
structure SignalReady (s u : State) : Prop where
  keeps : StageKeeps s u
  coherent : Coherent u
  signal : u.sig.valid = true
  noisy : u.noisy.valid = s.ctrl.applyNoise

theorem pipelineNoise_of_off {u : State} (h : u.ctrl.applyNoise = false) :
    pipelineNoise u = .committed u := by
  rw [pipelineNoise, if_neg (by simp [h])]

theorem pipelineNoise_of_on {u : State} (h : u.ctrl.applyNoise = true) :
    pipelineNoise u = addNoise u := by
  rw [pipelineNoise, if_pos h]

/-- Without noise the front end's signal is what the back end starts from. -/
theorem signalReady_frontEnd {s : State} (h : PipelineLegal s)
    (hcodes : goldDupError (goldTable s) = none) (hnoise : s.ctrl.applyNoise = false) :
    SignalReady s (frontEnd s) :=
  ⟨stageKeeps_frontEnd s, coherent_frontEnd h hcodes, frontEnd_sig_valid s, by
    rw [frontEnd_noisy, hnoise]
    rfl⟩

theorem pipelineNoise_frontEnd_of_off {s : State} (hnoise : s.ctrl.applyNoise = false) :
    pipelineNoise (frontEnd s) = .committed (frontEnd s) :=
  pipelineNoise_of_off (by rw [(stageKeeps_frontEnd s).host.ctrl, hnoise])

/-- The noise step of the pipeline leaves a signal, or fails in ADD_NOISE at the drawn-from state. -/
theorem pipelineNoise_cases {s : State} (h : PipelineLegal s)
    (hcodes : goldDupError (goldTable s) = none) :
    (∃ u, pipelineNoise (frontEnd s) = .committed u ∧ SignalReady s u) ∨
    s.ctrl.applyNoise = true ∧ ∃ n e, IsNoiseError e ∧
      pipelineNoise (frontEnd s) = .failed (takeDraws (frontEnd s) n) e := by
  cases hnoise : s.ctrl.applyNoise with
  | false => exact .inl ⟨frontEnd s, pipelineNoise_frontEnd_of_off hnoise,
      signalReady_frontEnd h hcodes hnoise⟩
  | true =>
    have hkeeps := (stageKeeps_frontEnd s).trans (addNoise_keeps (frontEnd s))
    have hcoherent := addNoise_coherent (coherent_frontEnd h hcodes)
    have hctrl : (frontEnd s).ctrl = s.ctrl := (stageKeeps_frontEnd s).host.ctrl
    rw [pipelineNoise_of_on (by rw [hctrl, hnoise])]
    rw [addNoise_of_signal (frontEnd_sig_valid s)] at hkeeps hcoherent ⊢
    rcases injectNoise_cases _ _ with ⟨-, -, -, -, hcommit⟩ | ⟨e, hfail⟩
    · rw [hcommit] at hkeeps hcoherent ⊢
      exact .inl ⟨_, rfl, hkeeps, hcoherent, by simp [takeDraws_sig], by simp [hnoise]⟩
    · exact .inr ⟨rfl, _, e, isNoiseError_of_injectNoise hfail, hfail⟩

/-! ### The back end: CORRELATE, DECODE (R275) -/

/-- The state after CORRELATE and DECODE. -/
def backEnd (u : State) : State :=
  let k := correlateCommit u
  decodeCommit k (decodeBits k) (decodeCbf k) (decodeStartEnd k)

theorem backEnd_noiseState (u : State) : (backEnd u).noiseState = u.noiseState := rfl

/-- The result of CORRELATE and DECODE from a signal: both commit, and every symbol gives two bits. -/
structure BackEndCompletes (s u : State) : Prop where
  result : (correlate u).andThen decodeStage = .committed (backEnd u)
  coherent : Coherent (backEnd u)
  length : (backEnd u).dec.dec.length = 2 * (s.nBits.toNat / 2)

theorem backEnd_completes {s u : State} (h : PipelineLegal s) (hu : SignalReady s u) :
    BackEndCompletes s u := by
  have hhost := hu.keeps.host
  have hcorrelate : correlate u = .committed (correlateCommit u) := by
    refine correlate_of_legal hu.signal ?_
    rw [hhost.maxSamples, referenceLen, hhost.spc]
    exact h.referenceFits
  have hcoherent : Coherent (correlateCommit u) := by
    have hkept := correlate_coherent hu.coherent
    rwa [hcorrelate] at hkept
  have hbits : (correlateCommit u).nBits = s.nBits := hhost.nBits
  obtain ⟨t, hexec, hvalid, -, hlength⟩ := decodeNeverDegenerate (correlateCommit u) hcoherent rfl
    (hbits ▸ h.bits) (hbits ▸ h.plannedChips_lt)
  have hdecode : decodeStage (correlateCommit u) = .committed (backEnd u) := by
    rcases decodeStage_cases (correlateCommit u) with ⟨-, -, -, -, hcommit⟩ | ⟨e, hfail⟩
    · exact hcommit
    · rw [exec_decode_of_failed hfail] at hexec
      cases hexec
      cases hvalid
  rw [exec_eq_complete rfl, commandResult, hdecode] at hexec
  cases hexec
  refine ⟨?_, ?_, hbits ▸ hlength⟩
  · rw [hcorrelate, andThen_committed, hdecode]
  · have hkept := decodeStage_coherent hcoherent
    rwa [hdecode] at hkept

/-! ### The flags at the end (R25, R49) -/

/-- With DEC_V set every flag that it follows from is set, so only RX_NOISY is left open. -/
theorem flagByte_of_decoded {t : State} (h : FlagChain t) (hdec : t.dec.valid = true) :
    flagByte t = if t.noisy.valid then 0xFF#8 else 0xDF#8 := by
  have hcorr := h.dec hdec
  have hsig := h.corr hcorr
  have hchip := h.sig hsig
  have hgold := h.chip hchip
  obtain ⟨hmsa, hmsb⟩ := h.gold hgold
  rw [flagByte, hdec, hcorr, hsig, hchip, hgold, hmsa, hmsb]
  cases t.noisy.valid <;> rfl

theorem flagByte_takeDraws (s : State) (n : Nat) : flagByte (takeDraws s n) = flagByte s := by
  unfold takeDraws
  split <;> rfl

theorem flagByte_backEnd {s u : State} (hu : SignalReady s u) (hd : Coherent (backEnd u)) :
    flagByte (backEnd u) = if s.ctrl.applyNoise then 0xFF#8 else 0xDF#8 := by
  rw [flagByte_of_decoded hd.chain rfl, ← hu.noisy]
  rfl

/-! ### The command as a whole (R275) -/

/-- Past its prechecks the pipeline fails on equal codes, fails in ADD_NOISE, or decodes a signal. -/
theorem runPipeline_cases {s : State} (h : PipelineLegal s) :
    (∃ j k : Fin 4, j < k ∧ runPipeline s = .failed s (.goldNotDistinct j k)) ∨
    (s.ctrl.applyNoise = true ∧ ∃ n e, IsNoiseError e ∧
      runPipeline s = .failed (takeDraws (frontEnd s) n) e) ∨
    ∃ u, SignalReady s u ∧ runPipeline s = .committed (backEnd u) := by
  cases hcodes : goldDupError (goldTable s) with
  | some e =>
    obtain ⟨j, k, hjk, rfl⟩ := goldDupError_pair hcodes
    exact .inl ⟨j, k, hjk, runPipeline_of_goldDup h hcodes⟩
  | none =>
    rw [runPipeline_of_distinct h hcodes]
    rcases pipelineNoise_cases h hcodes with ⟨u, hcommit, hu⟩ | ⟨happly, n, e, he, hfail⟩
    · exact .inr (.inr ⟨u, hu, by
        rw [hcommit, andThen_committed, (backEnd_completes h hu).result]⟩)
    · exact .inr (.inl ⟨happly, n, e, he, by rw [hfail, andThen_failed, andThen_failed]⟩)

/-- Settles O40: the three ways the stages can end, each completed. -/
theorem runPipelineFailsOnlyTwoWays : Obligations.RunPipelineFailsOnlyTwoWays := by
  intro s t hpre hexec
  have hlegal := precheckError_eq_none_iff.1 hpre
  have hkeeps : StageKeeps s (runPipeline s).state := stageKeeps_commandResult .runPipeline s
  rw [exec_eq_complete rfl, commandResult] at hexec
  obtain rfl : complete (runPipeline s) = t := by injection hexec
  rcases runPipeline_cases hlegal with ⟨j, k, hjk, hfail⟩ | ⟨happly, n, e, he, hfail⟩ |
    ⟨u, hu, hcommit⟩
  · exact .inl ⟨j, k, hjk, by rw [hfail, complete_failed]⟩
  · rw [hfail, complete_failed]
    exact .inr (.inl ⟨happly, rfl, he, (flagByte_takeDraws _ n).trans (flagByte_frontEnd s)⟩)
  · rw [hcommit] at hkeeps ⊢
    have hflags := flagByte_backEnd hu (backEnd_completes hlegal hu).coherent
    exact .inr (.inr ⟨congrArg (fun st => { st with done := true }) hkeeps.status,
      hkeeps.errCode, hkeeps.errInfo, hflags⟩)

/-- Settles O39: distinct codes and no noise leave the signal of SYNTH, which the back end decodes. -/
theorem runPipelineCompletes : Obligations.RunPipelineCompletes := by
  intro s hbps hspc hf0 hphi0 hbits hfit hrange hdup hcodes hsamples href hnoise
  have hlegal : PipelineLegal s :=
    ⟨hbps, hspc, hf0, hphi0, hbits, hfit, hrange, hdup, hsamples, href⟩
  have hready := signalReady_frontEnd hlegal hcodes hnoise
  obtain ⟨hcommit, hcoherent, hlength⟩ := backEnd_completes hlegal hready
  have hrun : runPipeline s = .committed (backEnd (frontEnd s)) := by
    rw [runPipeline_of_distinct hlegal hcodes, pipelineNoise_frontEnd_of_off hnoise,
      andThen_committed, hcommit]
  have hkeeps : StageKeeps s (backEnd (frontEnd s)) := by
    have hpipeline := stageKeeps_commandResult .runPipeline s
    rwa [commandResult, hrun] at hpipeline
  have hexec : exec .runPipeline s = .next (finish (backEnd (frontEnd s))) := by
    rw [exec_eq_complete rfl, commandResult, hrun, complete_committed]
  have hnoiseState : (backEnd (frontEnd s)).noiseState = s.noiseState := by
    rw [backEnd_noiseState, frontEnd_noiseState]
  have hflags := flagByte_backEnd hready hcoherent
  rw [hnoise] at hflags
  exact ⟨_, hexec, hflags, (coherent_complete (.committed _) hcoherent).current,
    hkeeps.host.trans (hostSideKept_complete (.committed _)), hnoiseState, rfl,
    congrArg (fun st => { st with done := true }) hkeeps.status, hkeeps.errCode, hkeeps.errInfo,
    hlength⟩

end Sys2Proof.Proofs
